-- ==== Sys2Proof/Word.lean ====
section
/-! DEFINITION. The word types of the machine: 64-bit words, bytes, instruction words. -/

namespace Sys2Proof

/-- A 64-bit word: a general register, the program counter, an address, `HFGRTR_EL2` (R13, R27, R28). -/
abbrev Word := BitVec 64

/-- One byte of memory or of the program text. -/
abbrev Byte := BitVec 8

/-- One instruction word (R58: every instruction of the table is 32 bits). -/
abbrev InstrWord := BitVec 32

/-- A point of the System register encoding space, `op0 : op1 : CRn : CRm : op2`, most significant first (R42). -/
abbrev Point := BitVec 16

end Sys2Proof
end

