-- ==== Sys2Proof/Syntax.lean ====
section
/-! DEFINITION. The syntax: the register's fields, the System registers whose reads it traps, the instruction sets,
and the ONE inductive of instructions, a constructor for each row of spec/opcode_table.json. -/

namespace Sys2Proof

/-- The 63 named fields of `HFGRTR_EL2`, in the source's order, bit 63 first (R16, R17). -/
inductive Field where
  | nAmair2El1
  | nMair2El1
  | nS2porEl1
  | nPorEl1
  | nPorEl0
  | nPirEl1
  | nPire0El1
  | nRcwmaskEl1
  | nTpidr2El0
  | nSmpriEl1
  | nGcsEl1
  | nGcsEl0
  | nAccdataEl1
  | erxaddrEl1
  | erxpfgcdnEl1
  | erxpfgctlEl1
  | erxpfgfEl1
  | erxmiscnEl1
  | erxstatusEl1
  | erxctlrEl1
  | erxfrEl1
  | errselrEl1
  | erridrEl1
  | iccIgrpennEl1
  | vbarEl1
  | ttbr1El1
  | ttbr0El1
  | tpidrEl0
  | tpidrroEl0
  | tpidrEl1
  | tcrEl1
  | scxtnumEl0
  | scxtnumEl1
  | sctlrEl1
  | revidrEl1
  | parEl1
  | mpidrEl1
  | midrEl1
  | mairEl1
  | lorsaEl1
  | lornEl1
  | loridEl1
  | loreaEl1
  | lorcEl1
  | isrEl1
  | farEl1
  | esrEl1
  | dczidEl0
  | ctrEl0
  | csselrEl1
  | cpacrEl1
  | contextidrEl1
  | clidrEl1
  | ccsidrEl1
  | apibKey
  | apiaKey
  | apgaKey
  | apdbKey
  | apdaKey
  | amairEl1
  | aidrEl1
  | afsr1El1
  | afsr0El1
deriving DecidableEq, Repr

/-- The System registers whose reads `HFGRTR_EL2` can trap: the 76 AArch64 names of R61, then the two AArch32 names
of R108 and R109. Their contents are no part of this hardware (R5). -/
inductive SysReg where
  | amair2El1
  | mair2El1
  | s2porEl1
  | porEl1
  | porEl0
  | pirEl1
  | pire0El1
  | rcwmaskEl1
  | tpidr2El0
  | smpriEl1
  | gcscrEl1
  | gcsprEl1
  | gcscre0El1
  | gcsprEl0
  | accdataEl1
  | erxaddrEl1
  | erxpfgcdnEl1
  | erxpfgctlEl1
  | erxpfgfEl1
  | erxmisc0El1
  | erxmisc1El1
  | erxmisc2El1
  | erxmisc3El1
  | erxstatusEl1
  | erxctlrEl1
  | erxfrEl1
  | errselrEl1
  | erridrEl1
  | iccIgrpen0El1
  | iccIgrpen1El1
  | vbarEl1
  | ttbr1El1
  | ttbr0El1
  | tpidrEl0
  | tpidrroEl0
  | tpidrEl1
  | tcrEl1
  | tcr2El1
  | scxtnumEl0
  | scxtnumEl1
  | sctlrEl1
  | sctlr2El1
  | revidrEl1
  | parEl1
  | mpidrEl1
  | midrEl1
  | mairEl1
  | lorsaEl1
  | lornEl1
  | loridEl1
  | loreaEl1
  | lorcEl1
  | isrEl1
  | farEl1
  | esrEl1
  | dczidEl0
  | ctrEl0
  | csselrEl1
  | cpacrEl1
  | contextidrEl1
  | clidrEl1
  | ccsidrEl1
  | apibKeyHiEl1
  | apibKeyLoEl1
  | apiaKeyHiEl1
  | apiaKeyLoEl1
  | apgaKeyHiEl1
  | apgaKeyLoEl1
  | apdbKeyHiEl1
  | apdbKeyLoEl1
  | apdaKeyHiEl1
  | apdaKeyLoEl1
  | amairEl1
  | aidrEl1
  | afsr1El1
  | afsr0El1
  | tpidrurw
  | tpidruro
deriving DecidableEq, Repr

/-- The instruction set that decodes a word (R69): A64 in AArch64, A32 or T32 in AArch32 (R60). -/
inductive ISet where
  | a64 | a32 | t32
deriving DecidableEq, Repr

/-- The kinds of read the fields govern (R73). -/
inductive ReadKind where
  | mrs | mrrs | mrc
deriving DecidableEq, Repr

/-- What an instruction accesses: the register itself (`mrsH`, `msrH`), or a register whose read can be trapped. -/
inductive Access where
  | mrsH (t : BitVec 5)
  | msrH (t : BitVec 5)
  | mrs (reg : SysReg) (t : BitVec 5)
  | mrrs (reg : SysReg) (t : BitVec 5)
  | mrc (reg : SysReg) (cond t : BitVec 4)
deriving DecidableEq, Repr

/-- The instructions, one constructor for each row of spec/opcode_table.json (R70). `t` is the field `Rt` (R62, R60)
and `cond` the condition field of an A32 word (R60). -/
inductive Instr where
  | mrsHfgrtrEl2 (t : BitVec 5)
  | msrHfgrtrEl2 (t : BitVec 5)
  | mrsAmair2El1 (t : BitVec 5)
  | mrsMair2El1 (t : BitVec 5)
  | mrsS2porEl1 (t : BitVec 5)
  | mrsPorEl1 (t : BitVec 5)
  | mrsPorEl0 (t : BitVec 5)
  | mrsPirEl1 (t : BitVec 5)
  | mrsPire0El1 (t : BitVec 5)
  | mrsRcwmaskEl1 (t : BitVec 5)
  | mrsTpidr2El0 (t : BitVec 5)
  | mrsSmpriEl1 (t : BitVec 5)
  | mrsGcscrEl1 (t : BitVec 5)
  | mrsGcsprEl1 (t : BitVec 5)
  | mrsGcscre0El1 (t : BitVec 5)
  | mrsGcsprEl0 (t : BitVec 5)
  | mrsAccdataEl1 (t : BitVec 5)
  | mrsErxaddrEl1 (t : BitVec 5)
  | mrsErxpfgcdnEl1 (t : BitVec 5)
  | mrsErxpfgctlEl1 (t : BitVec 5)
  | mrsErxpfgfEl1 (t : BitVec 5)
  | mrsErxmisc0El1 (t : BitVec 5)
  | mrsErxmisc1El1 (t : BitVec 5)
  | mrsErxmisc2El1 (t : BitVec 5)
  | mrsErxmisc3El1 (t : BitVec 5)
  | mrsErxstatusEl1 (t : BitVec 5)
  | mrsErxctlrEl1 (t : BitVec 5)
  | mrsErxfrEl1 (t : BitVec 5)
  | mrsErrselrEl1 (t : BitVec 5)
  | mrsErridrEl1 (t : BitVec 5)
  | mrsIccIgrpen0El1 (t : BitVec 5)
  | mrsIccIgrpen1El1 (t : BitVec 5)
  | mrsVbarEl1 (t : BitVec 5)
  | mrsTtbr1El1 (t : BitVec 5)
  | mrsTtbr0El1 (t : BitVec 5)
  | mrsTpidrEl0 (t : BitVec 5)
  | mrsTpidrroEl0 (t : BitVec 5)
  | mrsTpidrEl1 (t : BitVec 5)
  | mrsTcrEl1 (t : BitVec 5)
  | mrsTcr2El1 (t : BitVec 5)
  | mrsScxtnumEl0 (t : BitVec 5)
  | mrsScxtnumEl1 (t : BitVec 5)
  | mrsSctlrEl1 (t : BitVec 5)
  | mrsSctlr2El1 (t : BitVec 5)
  | mrsRevidrEl1 (t : BitVec 5)
  | mrsParEl1 (t : BitVec 5)
  | mrsMpidrEl1 (t : BitVec 5)
  | mrsMidrEl1 (t : BitVec 5)
  | mrsMairEl1 (t : BitVec 5)
  | mrsLorsaEl1 (t : BitVec 5)
  | mrsLornEl1 (t : BitVec 5)
  | mrsLoridEl1 (t : BitVec 5)
  | mrsLoreaEl1 (t : BitVec 5)
  | mrsLorcEl1 (t : BitVec 5)
  | mrsIsrEl1 (t : BitVec 5)
  | mrsFarEl1 (t : BitVec 5)
  | mrsEsrEl1 (t : BitVec 5)
  | mrsDczidEl0 (t : BitVec 5)
  | mrsCtrEl0 (t : BitVec 5)
  | mrsCsselrEl1 (t : BitVec 5)
  | mrsCpacrEl1 (t : BitVec 5)
  | mrsContextidrEl1 (t : BitVec 5)
  | mrsClidrEl1 (t : BitVec 5)
  | mrsCcsidrEl1 (t : BitVec 5)
  | mrsApibKeyHiEl1 (t : BitVec 5)
  | mrsApibKeyLoEl1 (t : BitVec 5)
  | mrsApiaKeyHiEl1 (t : BitVec 5)
  | mrsApiaKeyLoEl1 (t : BitVec 5)
  | mrsApgaKeyHiEl1 (t : BitVec 5)
  | mrsApgaKeyLoEl1 (t : BitVec 5)
  | mrsApdbKeyHiEl1 (t : BitVec 5)
  | mrsApdbKeyLoEl1 (t : BitVec 5)
  | mrsApdaKeyHiEl1 (t : BitVec 5)
  | mrsApdaKeyLoEl1 (t : BitVec 5)
  | mrsAmairEl1 (t : BitVec 5)
  | mrsAidrEl1 (t : BitVec 5)
  | mrsAfsr1El1 (t : BitVec 5)
  | mrsAfsr0El1 (t : BitVec 5)
  | mrrsRcwmaskEl1 (t : BitVec 5)
  | mrrsTtbr1El1 (t : BitVec 5)
  | mrrsTtbr0El1 (t : BitVec 5)
  | mrrsParEl1 (t : BitVec 5)
  | mrcTpidrurw (cond t : BitVec 4)
  | mrcTpidruro (cond t : BitVec 4)
deriving DecidableEq, Repr

end Sys2Proof
end

