-- ==== Sys2Proof/Config.lean ====
section
/-! DEFINITION. What an implementation fixes for a run (R6 "configuration"), and the free values: constants with no
body, so that nothing can be proved of what they are. -/

namespace Sys2Proof

/-- The configuration parameters of R6. A configuration is an argument of the model: every machine state carries one,
no step changes it, and a statement about all states holds for all of them. -/
structure Config where
  /-- FEAT_FGT is implemented, so that the register is present (R14). -/
  haveFGT : Bool
  /-- EL2 is implemented (R15). -/
  haveEL2 : Bool
  /-- EL3 is implemented (R74, R146). -/
  haveEL3 : Bool
  /-- `BITPOS`: the bit of each field, in the source's order of the fields (R17, D1). -/
  bitpos : List Nat
  /-- `TrapSet` of the eleven group fields: which group field governs a register (R18, D2). -/
  groupSets : List (SysReg × Field)
  /-- The conditional fields whose feature is not implemented: `FeatOf(F)` is false exactly for these (R21, D5). -/
  absent : List Field
  /-- RES0 bits hold what was written, without effect (true), or are hardwired to 0 (false) (R20, D4). -/
  res0Stored : Bool
  /-- The EC of a trapped `MRRS` (R159, D7). -/
  ecMRRS : BitVec 6
  /-- The EC of a trapped `MRC` (R158, D6). -/
  ecMRC : BitVec 6
  /-- The implementation-defined address at which execution starts after reset (R188). -/
  resetPC : Word
deriving DecidableEq, Repr

/-- FREE VALUE (log 5). What the rest of the machine returns for a read it completes; the spec gives no contents of
any trapped register (R5, R79). The second argument is the count of free values drawn before. -/
opaque Config.freeRead : SysReg → Nat → BitVec 128

/-- FREE VALUE (log 4). The ISS bits of a syndrome for which the spec gives no layout (R162). -/
opaque Config.freeISS : Nat → BitVec 25

/-- FREE VALUE (log 4). Bits 63:32 of a syndrome whose EC is not 0x18: R162 gives a whole value for EC 0x18 alone. -/
opaque Config.freeEsrHigh : Nat → BitVec 32

end Sys2Proof
end

