-- ==== Sys2Proof/WellFormed.lean ====
section
/-! DEFINITION. The checks an instruction must pass beyond its syntax. -/

namespace Sys2Proof

/-- An instruction is well formed: the first register of an `MRRS` pair is even (R60, "`Rt` even"); every operand of
every other instruction is legal (R66, "all 32 values of `Rt` are legal"; R60). -/
def Instr.wellFormed : Instr → Bool
  | .mrsHfgrtrEl2 _ => true
  | .msrHfgrtrEl2 _ => true
  | .mrsAmair2El1 _ => true
  | .mrsMair2El1 _ => true
  | .mrsS2porEl1 _ => true
  | .mrsPorEl1 _ => true
  | .mrsPorEl0 _ => true
  | .mrsPirEl1 _ => true
  | .mrsPire0El1 _ => true
  | .mrsRcwmaskEl1 _ => true
  | .mrsTpidr2El0 _ => true
  | .mrsSmpriEl1 _ => true
  | .mrsGcscrEl1 _ => true
  | .mrsGcsprEl1 _ => true
  | .mrsGcscre0El1 _ => true
  | .mrsGcsprEl0 _ => true
  | .mrsAccdataEl1 _ => true
  | .mrsErxaddrEl1 _ => true
  | .mrsErxpfgcdnEl1 _ => true
  | .mrsErxpfgctlEl1 _ => true
  | .mrsErxpfgfEl1 _ => true
  | .mrsErxmisc0El1 _ => true
  | .mrsErxmisc1El1 _ => true
  | .mrsErxmisc2El1 _ => true
  | .mrsErxmisc3El1 _ => true
  | .mrsErxstatusEl1 _ => true
  | .mrsErxctlrEl1 _ => true
  | .mrsErxfrEl1 _ => true
  | .mrsErrselrEl1 _ => true
  | .mrsErridrEl1 _ => true
  | .mrsIccIgrpen0El1 _ => true
  | .mrsIccIgrpen1El1 _ => true
  | .mrsVbarEl1 _ => true
  | .mrsTtbr1El1 _ => true
  | .mrsTtbr0El1 _ => true
  | .mrsTpidrEl0 _ => true
  | .mrsTpidrroEl0 _ => true
  | .mrsTpidrEl1 _ => true
  | .mrsTcrEl1 _ => true
  | .mrsTcr2El1 _ => true
  | .mrsScxtnumEl0 _ => true
  | .mrsScxtnumEl1 _ => true
  | .mrsSctlrEl1 _ => true
  | .mrsSctlr2El1 _ => true
  | .mrsRevidrEl1 _ => true
  | .mrsParEl1 _ => true
  | .mrsMpidrEl1 _ => true
  | .mrsMidrEl1 _ => true
  | .mrsMairEl1 _ => true
  | .mrsLorsaEl1 _ => true
  | .mrsLornEl1 _ => true
  | .mrsLoridEl1 _ => true
  | .mrsLoreaEl1 _ => true
  | .mrsLorcEl1 _ => true
  | .mrsIsrEl1 _ => true
  | .mrsFarEl1 _ => true
  | .mrsEsrEl1 _ => true
  | .mrsDczidEl0 _ => true
  | .mrsCtrEl0 _ => true
  | .mrsCsselrEl1 _ => true
  | .mrsCpacrEl1 _ => true
  | .mrsContextidrEl1 _ => true
  | .mrsClidrEl1 _ => true
  | .mrsCcsidrEl1 _ => true
  | .mrsApibKeyHiEl1 _ => true
  | .mrsApibKeyLoEl1 _ => true
  | .mrsApiaKeyHiEl1 _ => true
  | .mrsApiaKeyLoEl1 _ => true
  | .mrsApgaKeyHiEl1 _ => true
  | .mrsApgaKeyLoEl1 _ => true
  | .mrsApdbKeyHiEl1 _ => true
  | .mrsApdbKeyLoEl1 _ => true
  | .mrsApdaKeyHiEl1 _ => true
  | .mrsApdaKeyLoEl1 _ => true
  | .mrsAmairEl1 _ => true
  | .mrsAidrEl1 _ => true
  | .mrsAfsr1El1 _ => true
  | .mrsAfsr0El1 _ => true
  | .mrrsRcwmaskEl1 t => !t.getLsbD 0
  | .mrrsTtbr1El1 t => !t.getLsbD 0
  | .mrrsTtbr0El1 t => !t.getLsbD 0
  | .mrrsParEl1 t => !t.getLsbD 0
  | .mrcTpidrurw _ _ => true
  | .mrcTpidruro _ _ => true

end Sys2Proof
end

