-- ==== Sys2Proof/Decode.lean ====
section
/-! DEFINITION. The decoder, total on any bytes, and after it the encoder, both written from the layouts of R58 to R61.
All of it is general knowledge the spec supplies (D30): PRESUMED, log 22. -/

namespace Sys2Proof

/-- Why bytes are no instruction of this hardware. -/
inductive DecodeError where
  /-- Fewer than four bytes are left. -/
  | tooShort
  /-- The word is no row of the opcode table (R68, D30). -/
  | noSuchRow
  /-- An `MRRS` whose first register is odd (R60). -/
  | oddPair
deriving DecidableEq, Repr

/-- The point `op0 : op1 : CRn : CRm : op2` from its five coordinates (R42). -/
def point (op0 op1 crn crm op2 : Nat) : Point :=
  BitVec.ofNat 2 op0 ++ BitVec.ofNat 3 op1 ++ BitVec.ofNat 4 crn ++ BitVec.ofNat 4 crm ++ BitVec.ofNat 3 op2

/-- The point of `HFGRTR_EL2`: op0 = 0b11, op1 = 0b100, CRn = 0b0001, CRm = 0b0001, op2 = 0b100 (R57). -/
def hfgrtrPoint : Point := point 0b11 0b100 0b0001 0b0001 0b100

/-- The points of the trapped AArch64 registers (the table of R61); an AArch32 name has none. -/
def SysReg.point? : SysReg → Option Point
  | .amair2El1 => some (point 3 0 10 3 1)
  | .mair2El1 => some (point 3 0 10 2 1)
  | .s2porEl1 => some (point 3 0 10 2 5)
  | .porEl1 => some (point 3 0 10 2 4)
  | .porEl0 => some (point 3 3 10 2 4)
  | .pirEl1 => some (point 3 0 10 2 3)
  | .pire0El1 => some (point 3 0 10 2 2)
  | .rcwmaskEl1 => some (point 3 0 13 0 6)
  | .tpidr2El0 => some (point 3 3 13 0 5)
  | .smpriEl1 => some (point 3 0 1 2 4)
  | .gcscrEl1 => some (point 3 0 2 5 0)
  | .gcsprEl1 => some (point 3 0 2 5 1)
  | .gcscre0El1 => some (point 3 0 2 5 2)
  | .gcsprEl0 => some (point 3 3 2 5 1)
  | .accdataEl1 => some (point 3 0 13 0 5)
  | .erxaddrEl1 => some (point 3 0 5 4 3)
  | .erxpfgcdnEl1 => some (point 3 0 5 4 6)
  | .erxpfgctlEl1 => some (point 3 0 5 4 5)
  | .erxpfgfEl1 => some (point 3 0 5 4 4)
  | .erxmisc0El1 => some (point 3 0 5 5 0)
  | .erxmisc1El1 => some (point 3 0 5 5 1)
  | .erxmisc2El1 => some (point 3 0 5 5 2)
  | .erxmisc3El1 => some (point 3 0 5 5 3)
  | .erxstatusEl1 => some (point 3 0 5 4 2)
  | .erxctlrEl1 => some (point 3 0 5 4 1)
  | .erxfrEl1 => some (point 3 0 5 4 0)
  | .errselrEl1 => some (point 3 0 5 3 1)
  | .erridrEl1 => some (point 3 0 5 3 0)
  | .iccIgrpen0El1 => some (point 3 0 12 12 6)
  | .iccIgrpen1El1 => some (point 3 0 12 12 7)
  | .vbarEl1 => some (point 3 0 12 0 0)
  | .ttbr1El1 => some (point 3 0 2 0 1)
  | .ttbr0El1 => some (point 3 0 2 0 0)
  | .tpidrEl0 => some (point 3 3 13 0 2)
  | .tpidrroEl0 => some (point 3 3 13 0 3)
  | .tpidrEl1 => some (point 3 0 13 0 4)
  | .tcrEl1 => some (point 3 0 2 0 2)
  | .tcr2El1 => some (point 3 0 2 0 3)
  | .scxtnumEl0 => some (point 3 3 13 0 7)
  | .scxtnumEl1 => some (point 3 0 13 0 7)
  | .sctlrEl1 => some (point 3 0 1 0 0)
  | .sctlr2El1 => some (point 3 0 1 0 3)
  | .revidrEl1 => some (point 3 0 0 0 6)
  | .parEl1 => some (point 3 0 7 4 0)
  | .mpidrEl1 => some (point 3 0 0 0 5)
  | .midrEl1 => some (point 3 0 0 0 0)
  | .mairEl1 => some (point 3 0 10 2 0)
  | .lorsaEl1 => some (point 3 0 10 4 0)
  | .lornEl1 => some (point 3 0 10 4 2)
  | .loridEl1 => some (point 3 0 10 4 7)
  | .loreaEl1 => some (point 3 0 10 4 1)
  | .lorcEl1 => some (point 3 0 10 4 3)
  | .isrEl1 => some (point 3 0 12 1 0)
  | .farEl1 => some (point 3 0 6 0 0)
  | .esrEl1 => some (point 3 0 5 2 0)
  | .dczidEl0 => some (point 3 3 0 0 7)
  | .ctrEl0 => some (point 3 3 0 0 1)
  | .csselrEl1 => some (point 3 2 0 0 0)
  | .cpacrEl1 => some (point 3 0 1 0 2)
  | .contextidrEl1 => some (point 3 0 13 0 1)
  | .clidrEl1 => some (point 3 1 0 0 1)
  | .ccsidrEl1 => some (point 3 1 0 0 0)
  | .apibKeyHiEl1 => some (point 3 0 2 1 3)
  | .apibKeyLoEl1 => some (point 3 0 2 1 2)
  | .apiaKeyHiEl1 => some (point 3 0 2 1 1)
  | .apiaKeyLoEl1 => some (point 3 0 2 1 0)
  | .apgaKeyHiEl1 => some (point 3 0 2 3 1)
  | .apgaKeyLoEl1 => some (point 3 0 2 3 0)
  | .apdbKeyHiEl1 => some (point 3 0 2 2 3)
  | .apdbKeyLoEl1 => some (point 3 0 2 2 2)
  | .apdaKeyHiEl1 => some (point 3 0 2 2 1)
  | .apdaKeyLoEl1 => some (point 3 0 2 2 0)
  | .amairEl1 => some (point 3 0 10 3 0)
  | .aidrEl1 => some (point 3 1 0 0 7)
  | .afsr1El1 => some (point 3 0 5 1 1)
  | .afsr0El1 => some (point 3 0 5 1 0)
  | .tpidrurw => none
  | .tpidruro => none

/-- Every trapped register. -/
def SysReg.all : List SysReg :=
  ([.amair2El1, .mair2El1, .s2porEl1, .porEl1, .porEl0, .pirEl1, .pire0El1, .rcwmaskEl1, .tpidr2El0, .smpriEl1, .gcscrEl1, .gcsprEl1, .gcscre0El1] : List SysReg) ++
  ([.gcsprEl0, .accdataEl1, .erxaddrEl1, .erxpfgcdnEl1, .erxpfgctlEl1, .erxpfgfEl1, .erxmisc0El1, .erxmisc1El1, .erxmisc2El1, .erxmisc3El1, .erxstatusEl1, .erxctlrEl1, .erxfrEl1] : List SysReg) ++
  ([.errselrEl1, .erridrEl1, .iccIgrpen0El1, .iccIgrpen1El1, .vbarEl1, .ttbr1El1, .ttbr0El1, .tpidrEl0, .tpidrroEl0, .tpidrEl1, .tcrEl1, .tcr2El1, .scxtnumEl0] : List SysReg) ++
  ([.scxtnumEl1, .sctlrEl1, .sctlr2El1, .revidrEl1, .parEl1, .mpidrEl1, .midrEl1, .mairEl1, .lorsaEl1, .lornEl1, .loridEl1, .loreaEl1, .lorcEl1] : List SysReg) ++
  ([.isrEl1, .farEl1, .esrEl1, .dczidEl0, .ctrEl0, .csselrEl1, .cpacrEl1, .contextidrEl1, .clidrEl1, .ccsidrEl1, .apibKeyHiEl1, .apibKeyLoEl1, .apiaKeyHiEl1] : List SysReg) ++
  ([.apiaKeyLoEl1, .apgaKeyHiEl1, .apgaKeyLoEl1, .apdbKeyHiEl1, .apdbKeyLoEl1, .apdaKeyHiEl1, .apdaKeyLoEl1, .amairEl1, .aidrEl1, .afsr1El1, .afsr0El1, .tpidrurw, .tpidruro] : List SysReg)

/-- The trapped register at a point, if the table of R61 has one there. -/
def SysReg.ofPoint (p : Point) : Option SysReg :=
  SysReg.all.find? (fun r => r.point? == some p)

/-- What an instruction accesses, with its operands. -/
def Instr.access : Instr → Access
  | .mrsHfgrtrEl2 t => .mrsH t
  | .msrHfgrtrEl2 t => .msrH t
  | .mrsAmair2El1 t => .mrs .amair2El1 t
  | .mrsMair2El1 t => .mrs .mair2El1 t
  | .mrsS2porEl1 t => .mrs .s2porEl1 t
  | .mrsPorEl1 t => .mrs .porEl1 t
  | .mrsPorEl0 t => .mrs .porEl0 t
  | .mrsPirEl1 t => .mrs .pirEl1 t
  | .mrsPire0El1 t => .mrs .pire0El1 t
  | .mrsRcwmaskEl1 t => .mrs .rcwmaskEl1 t
  | .mrsTpidr2El0 t => .mrs .tpidr2El0 t
  | .mrsSmpriEl1 t => .mrs .smpriEl1 t
  | .mrsGcscrEl1 t => .mrs .gcscrEl1 t
  | .mrsGcsprEl1 t => .mrs .gcsprEl1 t
  | .mrsGcscre0El1 t => .mrs .gcscre0El1 t
  | .mrsGcsprEl0 t => .mrs .gcsprEl0 t
  | .mrsAccdataEl1 t => .mrs .accdataEl1 t
  | .mrsErxaddrEl1 t => .mrs .erxaddrEl1 t
  | .mrsErxpfgcdnEl1 t => .mrs .erxpfgcdnEl1 t
  | .mrsErxpfgctlEl1 t => .mrs .erxpfgctlEl1 t
  | .mrsErxpfgfEl1 t => .mrs .erxpfgfEl1 t
  | .mrsErxmisc0El1 t => .mrs .erxmisc0El1 t
  | .mrsErxmisc1El1 t => .mrs .erxmisc1El1 t
  | .mrsErxmisc2El1 t => .mrs .erxmisc2El1 t
  | .mrsErxmisc3El1 t => .mrs .erxmisc3El1 t
  | .mrsErxstatusEl1 t => .mrs .erxstatusEl1 t
  | .mrsErxctlrEl1 t => .mrs .erxctlrEl1 t
  | .mrsErxfrEl1 t => .mrs .erxfrEl1 t
  | .mrsErrselrEl1 t => .mrs .errselrEl1 t
  | .mrsErridrEl1 t => .mrs .erridrEl1 t
  | .mrsIccIgrpen0El1 t => .mrs .iccIgrpen0El1 t
  | .mrsIccIgrpen1El1 t => .mrs .iccIgrpen1El1 t
  | .mrsVbarEl1 t => .mrs .vbarEl1 t
  | .mrsTtbr1El1 t => .mrs .ttbr1El1 t
  | .mrsTtbr0El1 t => .mrs .ttbr0El1 t
  | .mrsTpidrEl0 t => .mrs .tpidrEl0 t
  | .mrsTpidrroEl0 t => .mrs .tpidrroEl0 t
  | .mrsTpidrEl1 t => .mrs .tpidrEl1 t
  | .mrsTcrEl1 t => .mrs .tcrEl1 t
  | .mrsTcr2El1 t => .mrs .tcr2El1 t
  | .mrsScxtnumEl0 t => .mrs .scxtnumEl0 t
  | .mrsScxtnumEl1 t => .mrs .scxtnumEl1 t
  | .mrsSctlrEl1 t => .mrs .sctlrEl1 t
  | .mrsSctlr2El1 t => .mrs .sctlr2El1 t
  | .mrsRevidrEl1 t => .mrs .revidrEl1 t
  | .mrsParEl1 t => .mrs .parEl1 t
  | .mrsMpidrEl1 t => .mrs .mpidrEl1 t
  | .mrsMidrEl1 t => .mrs .midrEl1 t
  | .mrsMairEl1 t => .mrs .mairEl1 t
  | .mrsLorsaEl1 t => .mrs .lorsaEl1 t
  | .mrsLornEl1 t => .mrs .lornEl1 t
  | .mrsLoridEl1 t => .mrs .loridEl1 t
  | .mrsLoreaEl1 t => .mrs .loreaEl1 t
  | .mrsLorcEl1 t => .mrs .lorcEl1 t
  | .mrsIsrEl1 t => .mrs .isrEl1 t
  | .mrsFarEl1 t => .mrs .farEl1 t
  | .mrsEsrEl1 t => .mrs .esrEl1 t
  | .mrsDczidEl0 t => .mrs .dczidEl0 t
  | .mrsCtrEl0 t => .mrs .ctrEl0 t
  | .mrsCsselrEl1 t => .mrs .csselrEl1 t
  | .mrsCpacrEl1 t => .mrs .cpacrEl1 t
  | .mrsContextidrEl1 t => .mrs .contextidrEl1 t
  | .mrsClidrEl1 t => .mrs .clidrEl1 t
  | .mrsCcsidrEl1 t => .mrs .ccsidrEl1 t
  | .mrsApibKeyHiEl1 t => .mrs .apibKeyHiEl1 t
  | .mrsApibKeyLoEl1 t => .mrs .apibKeyLoEl1 t
  | .mrsApiaKeyHiEl1 t => .mrs .apiaKeyHiEl1 t
  | .mrsApiaKeyLoEl1 t => .mrs .apiaKeyLoEl1 t
  | .mrsApgaKeyHiEl1 t => .mrs .apgaKeyHiEl1 t
  | .mrsApgaKeyLoEl1 t => .mrs .apgaKeyLoEl1 t
  | .mrsApdbKeyHiEl1 t => .mrs .apdbKeyHiEl1 t
  | .mrsApdbKeyLoEl1 t => .mrs .apdbKeyLoEl1 t
  | .mrsApdaKeyHiEl1 t => .mrs .apdaKeyHiEl1 t
  | .mrsApdaKeyLoEl1 t => .mrs .apdaKeyLoEl1 t
  | .mrsAmairEl1 t => .mrs .amairEl1 t
  | .mrsAidrEl1 t => .mrs .aidrEl1 t
  | .mrsAfsr1El1 t => .mrs .afsr1El1 t
  | .mrsAfsr0El1 t => .mrs .afsr0El1 t
  | .mrrsRcwmaskEl1 t => .mrrs .rcwmaskEl1 t
  | .mrrsTtbr1El1 t => .mrrs .ttbr1El1 t
  | .mrrsTtbr0El1 t => .mrrs .ttbr0El1 t
  | .mrrsParEl1 t => .mrrs .parEl1 t
  | .mrcTpidrurw cond t => .mrc .tpidrurw cond t
  | .mrcTpidruro cond t => .mrc .tpidruro cond t

/-- The `MRS` row of a register, if the table has one (R70). -/
def SysReg.mrsInstr? (t : BitVec 5) : SysReg → Option Instr
  | .amair2El1 => some (.mrsAmair2El1 t)
  | .mair2El1 => some (.mrsMair2El1 t)
  | .s2porEl1 => some (.mrsS2porEl1 t)
  | .porEl1 => some (.mrsPorEl1 t)
  | .porEl0 => some (.mrsPorEl0 t)
  | .pirEl1 => some (.mrsPirEl1 t)
  | .pire0El1 => some (.mrsPire0El1 t)
  | .rcwmaskEl1 => some (.mrsRcwmaskEl1 t)
  | .tpidr2El0 => some (.mrsTpidr2El0 t)
  | .smpriEl1 => some (.mrsSmpriEl1 t)
  | .gcscrEl1 => some (.mrsGcscrEl1 t)
  | .gcsprEl1 => some (.mrsGcsprEl1 t)
  | .gcscre0El1 => some (.mrsGcscre0El1 t)
  | .gcsprEl0 => some (.mrsGcsprEl0 t)
  | .accdataEl1 => some (.mrsAccdataEl1 t)
  | .erxaddrEl1 => some (.mrsErxaddrEl1 t)
  | .erxpfgcdnEl1 => some (.mrsErxpfgcdnEl1 t)
  | .erxpfgctlEl1 => some (.mrsErxpfgctlEl1 t)
  | .erxpfgfEl1 => some (.mrsErxpfgfEl1 t)
  | .erxmisc0El1 => some (.mrsErxmisc0El1 t)
  | .erxmisc1El1 => some (.mrsErxmisc1El1 t)
  | .erxmisc2El1 => some (.mrsErxmisc2El1 t)
  | .erxmisc3El1 => some (.mrsErxmisc3El1 t)
  | .erxstatusEl1 => some (.mrsErxstatusEl1 t)
  | .erxctlrEl1 => some (.mrsErxctlrEl1 t)
  | .erxfrEl1 => some (.mrsErxfrEl1 t)
  | .errselrEl1 => some (.mrsErrselrEl1 t)
  | .erridrEl1 => some (.mrsErridrEl1 t)
  | .iccIgrpen0El1 => some (.mrsIccIgrpen0El1 t)
  | .iccIgrpen1El1 => some (.mrsIccIgrpen1El1 t)
  | .vbarEl1 => some (.mrsVbarEl1 t)
  | .ttbr1El1 => some (.mrsTtbr1El1 t)
  | .ttbr0El1 => some (.mrsTtbr0El1 t)
  | .tpidrEl0 => some (.mrsTpidrEl0 t)
  | .tpidrroEl0 => some (.mrsTpidrroEl0 t)
  | .tpidrEl1 => some (.mrsTpidrEl1 t)
  | .tcrEl1 => some (.mrsTcrEl1 t)
  | .tcr2El1 => some (.mrsTcr2El1 t)
  | .scxtnumEl0 => some (.mrsScxtnumEl0 t)
  | .scxtnumEl1 => some (.mrsScxtnumEl1 t)
  | .sctlrEl1 => some (.mrsSctlrEl1 t)
  | .sctlr2El1 => some (.mrsSctlr2El1 t)
  | .revidrEl1 => some (.mrsRevidrEl1 t)
  | .parEl1 => some (.mrsParEl1 t)
  | .mpidrEl1 => some (.mrsMpidrEl1 t)
  | .midrEl1 => some (.mrsMidrEl1 t)
  | .mairEl1 => some (.mrsMairEl1 t)
  | .lorsaEl1 => some (.mrsLorsaEl1 t)
  | .lornEl1 => some (.mrsLornEl1 t)
  | .loridEl1 => some (.mrsLoridEl1 t)
  | .loreaEl1 => some (.mrsLoreaEl1 t)
  | .lorcEl1 => some (.mrsLorcEl1 t)
  | .isrEl1 => some (.mrsIsrEl1 t)
  | .farEl1 => some (.mrsFarEl1 t)
  | .esrEl1 => some (.mrsEsrEl1 t)
  | .dczidEl0 => some (.mrsDczidEl0 t)
  | .ctrEl0 => some (.mrsCtrEl0 t)
  | .csselrEl1 => some (.mrsCsselrEl1 t)
  | .cpacrEl1 => some (.mrsCpacrEl1 t)
  | .contextidrEl1 => some (.mrsContextidrEl1 t)
  | .clidrEl1 => some (.mrsClidrEl1 t)
  | .ccsidrEl1 => some (.mrsCcsidrEl1 t)
  | .apibKeyHiEl1 => some (.mrsApibKeyHiEl1 t)
  | .apibKeyLoEl1 => some (.mrsApibKeyLoEl1 t)
  | .apiaKeyHiEl1 => some (.mrsApiaKeyHiEl1 t)
  | .apiaKeyLoEl1 => some (.mrsApiaKeyLoEl1 t)
  | .apgaKeyHiEl1 => some (.mrsApgaKeyHiEl1 t)
  | .apgaKeyLoEl1 => some (.mrsApgaKeyLoEl1 t)
  | .apdbKeyHiEl1 => some (.mrsApdbKeyHiEl1 t)
  | .apdbKeyLoEl1 => some (.mrsApdbKeyLoEl1 t)
  | .apdaKeyHiEl1 => some (.mrsApdaKeyHiEl1 t)
  | .apdaKeyLoEl1 => some (.mrsApdaKeyLoEl1 t)
  | .amairEl1 => some (.mrsAmairEl1 t)
  | .aidrEl1 => some (.mrsAidrEl1 t)
  | .afsr1El1 => some (.mrsAfsr1El1 t)
  | .afsr0El1 => some (.mrsAfsr0El1 t)
  | .tpidrurw => none
  | .tpidruro => none

/-- The `MRRS` row of a register, if the table has one: the four registers whose entries name `MRRS` (R70). -/
def SysReg.mrrsInstr? (t : BitVec 5) : SysReg → Option Instr
  | .rcwmaskEl1 => some (.mrrsRcwmaskEl1 t)
  | .ttbr1El1 => some (.mrrsTtbr1El1 t)
  | .ttbr0El1 => some (.mrrsTtbr0El1 t)
  | .parEl1 => some (.mrrsParEl1 t)
  | _ => none

/-- The instruction an A64 word is. Bits 31:21 are `1101010100 L` for `MRS` (L = 1) and `MSR` (L = 0), with bits 20:5
the point, since bit 20 is the high bit of `op0` (R58); bits 31:21 are `11010101011` for `MRRS` (R60). -/
def decodeA64 (w : InstrWord) : Except DecodeError Instr :=
  let head := w.extractLsb' 21 11
  let p := w.extractLsb' 5 16
  let t := w.extractLsb' 0 5
  if head = 0b11010101001#11 then
    if p = hfgrtrPoint then .ok (.mrsHfgrtrEl2 t)
    else match (SysReg.ofPoint p).bind (SysReg.mrsInstr? t) with
      | some i => .ok i
      | none => .error .noSuchRow
  else if head = 0b11010101000#11 then
    if p = hfgrtrPoint then .ok (.msrHfgrtrEl2 t) else .error .noSuchRow
  else if head = 0b11010101011#11 then
    match (SysReg.ofPoint p).bind (SysReg.mrrsInstr? t) with
    | some i => if t.getLsbD 0 then .error .oddPair else .ok i
    | none => .error .noSuchRow
  else .error .noSuchRow

/-- The instruction an A32 word is: `cond 1110 opc1 1 CRn Rt 1111 opc2 1 CRm` with opc1 = 0, CRn = 13, CRm = 0 and
opc2 = 2 (TPIDRURW) or 3 (TPIDRURO) (R60). -/
def decodeA32 (w : InstrWord) : Except DecodeError Instr :=
  let cond := w.extractLsb' 28 4
  let t := w.extractLsb' 12 4
  if w.extractLsb' 16 12 = 0b111000011101#12 ∧ w.extractLsb' 8 4 = 0b1111#4 ∧ w.extractLsb' 0 5 = 0b10000#5 then
    if w.extractLsb' 5 3 = 2#3 then .ok (.mrcTpidrurw cond t)
    else if w.extractLsb' 5 3 = 3#3 then .ok (.mrcTpidruro cond t)
    else .error .noSuchRow
  else .error .noSuchRow

/-- The instruction a T32 word is: the A32 word with `cond` replaced by `1110` (R60). -/
def decodeT32 (w : InstrWord) : Except DecodeError Instr :=
  if w.extractLsb' 28 4 = 0b1110#4 then decodeA32 w else .error .noSuchRow

/-- The word of four bytes at increasing addresses, little-endian (R59, R69). -/
def leWord (b0 b1 b2 b3 : Byte) : InstrWord := b3 ++ b2 ++ b1 ++ b0

/-- The word of two T32 halfwords, each little-endian, the first at the lower address holding bits 31:16 (R60). -/
def thumbWord (b0 b1 b2 b3 : Byte) : InstrWord := b1 ++ b0 ++ b3 ++ b2

/-- The instruction at the front of the bytes, and the bytes after it. -/
def decode (m : ISet) : List Byte → Except DecodeError (Instr × List Byte)
  | b0 :: b1 :: b2 :: b3 :: rest =>
    let r := match m with
      | .a64 => decodeA64 (leWord b0 b1 b2 b3)
      | .a32 => decodeA32 (leWord b0 b1 b2 b3)
      | .t32 => decodeT32 (thumbWord b0 b1 b2 b3)
    match r with
    | .ok i => .ok (i, rest)
    | .error e => .error e
  | _ => .error .tooShort

/-- The instruction set of an instruction's row: A64, but for the two `MRC` rows, which are A32 (R70). -/
def Instr.iset (i : Instr) : ISet :=
  match i.access with
  | .mrc _ _ _ => .a32
  | _ => .a64

/-- The System register move word: `1101010100 L` then the point then `Rt` (R58). -/
def moveWord (l : BitVec 1) (p : Point) (t : BitVec 5) : InstrWord := 0b1101010100#10 ++ l ++ p ++ t

/-- The pair move word of `MRRS` (R60). -/
def pairWord (p : Point) (t : BitVec 5) : InstrWord := 0b11010101011#11 ++ p ++ t

/-- The A32 `MRC p15, 0, <Rt>, c13, c0, opc2` word (R60). -/
def mrcWord (cond t : BitVec 4) (opc2 : BitVec 3) : InstrWord :=
  cond ++ 0b111000011101#12 ++ t ++ 0b1111#4 ++ opc2 ++ 0b10000#5

/-- The `opc2` of the two AArch32 registers (R60). -/
def SysReg.opc2 : SysReg → BitVec 3
  | .tpidruro => 3#3
  | _ => 2#3

/-- The word that encodes an instruction (R58 to R61). -/
def encodeWord (i : Instr) : InstrWord :=
  match i.access with
  | .mrsH t => moveWord 1#1 hfgrtrPoint t
  | .msrH t => moveWord 0#1 hfgrtrPoint t
  | .mrs r t => moveWord 1#1 (r.point?.getD 0#16) t
  | .mrrs r t => pairWord (r.point?.getD 0#16) t
  | .mrc r cond t => mrcWord cond t r.opc2

/-- The four bytes of a word at increasing addresses, little-endian (R59). -/
def leBytes (w : InstrWord) : List Byte :=
  [w.extractLsb' 0 8, w.extractLsb' 8 8, w.extractLsb' 16 8, w.extractLsb' 24 8]

/-- The bytes of an instruction in its row's instruction set. -/
def encode (i : Instr) : List Byte := leBytes (encodeWord i)

/-- The bytes of an `MRC` with condition `1110` in T32: two little-endian halfwords, bits 31:16 first (R60). -/
def encodeT32 (i : Instr) : List Byte :=
  let w := encodeWord i
  [w.extractLsb' 16 8, w.extractLsb' 24 8, w.extractLsb' 0 8, w.extractLsb' 8 8]

/-- The instruction set in which a row's word is read: A64 where A64 has the word, else A32. The two tables share no
word (R70). -/
def tableWordISet (w : InstrWord) : ISet :=
  match decodeA64 w with
  | .ok _ => .a64
  | .error _ => match decodeA32 w with
    | .ok _ => .a32
    | .error _ => .a64

/-- The word of an opcode-table row given as a number: its low `nbits` bits, every bit above them 0. -/
def tableWord (nbits w : Nat) : InstrWord := BitVec.ofNat 32 (w % 2 ^ nbits)

/-- The instruction the decoder reads from a row's bits, laid out little-endian as the hardware stores them. -/
def decodeTableWord (nbits w : Nat) : Option Instr :=
  match decode (tableWordISet (tableWord nbits w)) (leBytes (tableWord nbits w)) with
  | .ok (i, _) => some i
  | .error _ => none

end Sys2Proof
end

