-- ==== Sys2Proof/Machine/Fields.lean ====
section
/-! DEFINITION. The tables of the 63 fields (R17 to R21) and what the configuration makes of them. -/

namespace Sys2Proof

/-- Every named field, in the source's order (R17). -/
def Field.all : List Field :=
  ([.nAmair2El1, .nMair2El1, .nS2porEl1, .nPorEl1, .nPorEl0, .nPirEl1, .nPire0El1, .nRcwmaskEl1, .nTpidr2El0] : List Field) ++
  ([.nSmpriEl1, .nGcsEl1, .nGcsEl0, .nAccdataEl1, .erxaddrEl1, .erxpfgcdnEl1, .erxpfgctlEl1, .erxpfgfEl1, .erxmiscnEl1] : List Field) ++
  ([.erxstatusEl1, .erxctlrEl1, .erxfrEl1, .errselrEl1, .erridrEl1, .iccIgrpennEl1, .vbarEl1, .ttbr1El1, .ttbr0El1] : List Field) ++
  ([.tpidrEl0, .tpidrroEl0, .tpidrEl1, .tcrEl1, .scxtnumEl0, .scxtnumEl1, .sctlrEl1, .revidrEl1, .parEl1] : List Field) ++
  ([.mpidrEl1, .midrEl1, .mairEl1, .lorsaEl1, .lornEl1, .loridEl1, .loreaEl1, .lorcEl1, .isrEl1] : List Field) ++
  ([.farEl1, .esrEl1, .dczidEl0, .ctrEl0, .csselrEl1, .cpacrEl1, .contextidrEl1, .clidrEl1, .ccsidrEl1] : List Field) ++
  ([.apibKey, .apiaKey, .apgaKey, .apdbKey, .apdaKey, .amairEl1, .aidrEl1, .afsr1El1, .afsr0El1] : List Field)

/-- The place of a field in the source's order: 0 for the first, 62 for the last (R17). -/
def Field.idx (f : Field) : Nat := f.ctorIdx

/-- The 13 fields whose names begin with `n`: they trap when the field is 0 (R19). -/
def Field.negative : Field → Bool
  | .nAmair2El1 => true
  | .nMair2El1 => true
  | .nS2porEl1 => true
  | .nPorEl1 => true
  | .nPorEl0 => true
  | .nPirEl1 => true
  | .nPire0El1 => true
  | .nRcwmaskEl1 => true
  | .nTpidr2El0 => true
  | .nSmpriEl1 => true
  | .nGcsEl1 => true
  | .nGcsEl0 => true
  | .nAccdataEl1 => true
  | .erxaddrEl1 => false
  | .erxpfgcdnEl1 => false
  | .erxpfgctlEl1 => false
  | .erxpfgfEl1 => false
  | .erxmiscnEl1 => false
  | .erxstatusEl1 => false
  | .erxctlrEl1 => false
  | .erxfrEl1 => false
  | .errselrEl1 => false
  | .erridrEl1 => false
  | .iccIgrpennEl1 => false
  | .vbarEl1 => false
  | .ttbr1El1 => false
  | .ttbr0El1 => false
  | .tpidrEl0 => false
  | .tpidrroEl0 => false
  | .tpidrEl1 => false
  | .tcrEl1 => false
  | .scxtnumEl0 => false
  | .scxtnumEl1 => false
  | .sctlrEl1 => false
  | .revidrEl1 => false
  | .parEl1 => false
  | .mpidrEl1 => false
  | .midrEl1 => false
  | .mairEl1 => false
  | .lorsaEl1 => false
  | .lornEl1 => false
  | .loridEl1 => false
  | .loreaEl1 => false
  | .lorcEl1 => false
  | .isrEl1 => false
  | .farEl1 => false
  | .esrEl1 => false
  | .dczidEl0 => false
  | .ctrEl0 => false
  | .csselrEl1 => false
  | .cpacrEl1 => false
  | .contextidrEl1 => false
  | .clidrEl1 => false
  | .ccsidrEl1 => false
  | .apibKey => false
  | .apiaKey => false
  | .apgaKey => false
  | .apdbKey => false
  | .apdaKey => false
  | .amairEl1 => false
  | .aidrEl1 => false
  | .afsr1El1 => false
  | .afsr0El1 => false

/-- `trapval(F)`: the value of the field at which reads are trapped (R19). -/
def Field.trapVal (f : Field) : Bool := !f.negative

/-- The 36 fields whose entry carries the line "Reserved, RES0." (R21). -/
def Field.conditional : Field → Bool
  | .nAmair2El1 => true
  | .nMair2El1 => true
  | .nS2porEl1 => true
  | .nPorEl1 => true
  | .nPorEl0 => true
  | .nPirEl1 => true
  | .nPire0El1 => true
  | .nRcwmaskEl1 => true
  | .nTpidr2El0 => true
  | .nSmpriEl1 => true
  | .nGcsEl1 => true
  | .nGcsEl0 => true
  | .nAccdataEl1 => true
  | .erxaddrEl1 => true
  | .erxpfgcdnEl1 => true
  | .erxpfgctlEl1 => true
  | .erxpfgfEl1 => true
  | .erxmiscnEl1 => true
  | .erxstatusEl1 => true
  | .erxctlrEl1 => true
  | .erxfrEl1 => true
  | .errselrEl1 => true
  | .erridrEl1 => true
  | .iccIgrpennEl1 => true
  | .vbarEl1 => false
  | .ttbr1El1 => false
  | .ttbr0El1 => false
  | .tpidrEl0 => false
  | .tpidrroEl0 => false
  | .tpidrEl1 => false
  | .tcrEl1 => false
  | .scxtnumEl0 => true
  | .scxtnumEl1 => true
  | .sctlrEl1 => false
  | .revidrEl1 => false
  | .parEl1 => false
  | .mpidrEl1 => false
  | .midrEl1 => false
  | .mairEl1 => false
  | .lorsaEl1 => true
  | .lornEl1 => true
  | .loridEl1 => true
  | .loreaEl1 => true
  | .lorcEl1 => true
  | .isrEl1 => false
  | .farEl1 => false
  | .esrEl1 => false
  | .dczidEl0 => false
  | .ctrEl0 => false
  | .csselrEl1 => false
  | .cpacrEl1 => false
  | .contextidrEl1 => false
  | .clidrEl1 => false
  | .ccsidrEl1 => false
  | .apibKey => true
  | .apiaKey => true
  | .apgaKey => true
  | .apdbKey => true
  | .apdaKey => true
  | .amairEl1 => false
  | .aidrEl1 => false
  | .afsr1El1 => false
  | .afsr0El1 => false

/-- The eight fields that cover EL0 beside EL1 (R75). -/
def Field.coversEL0 : Field → Bool
  | .nPorEl0 => true
  | .nTpidr2El0 => true
  | .nGcsEl0 => true
  | .tpidrEl0 => true
  | .tpidrroEl0 => true
  | .scxtnumEl0 => true
  | .dczidEl0 => true
  | .ctrEl0 => true
  | _ => false

/-- The two fields whose condition has "EL1 is using AArch64" (R108, R109). -/
def Field.needsEL1A64 : Field → Bool
  | .tpidrEl0 => true
  | .tpidrroEl0 => true
  | _ => false

/-- The kinds of read a field governs (R77). -/
def Field.kinds : Field → List ReadKind
  | .nRcwmaskEl1 => [.mrs, .mrrs]
  | .ttbr1El1 => [.mrs, .mrrs]
  | .ttbr0El1 => [.mrs, .mrrs]
  | .parEl1 => [.mrs, .mrrs]
  | .tpidrEl0 => [.mrs, .mrc]
  | .tpidrroEl0 => [.mrs, .mrc]
  | _ => [.mrs]

/-- The eleven fields whose register set is configuration (R18). -/
def Field.isGroup : Field → Bool
  | .nGcsEl1 => true
  | .nGcsEl0 => true
  | .erxmiscnEl1 => true
  | .iccIgrpennEl1 => true
  | .tcrEl1 => true
  | .sctlrEl1 => true
  | .apibKey => true
  | .apiaKey => true
  | .apgaKey => true
  | .apdbKey => true
  | .apdaKey => true
  | _ => false

/-- The field that governs a register by the source's own words: the entry names the register (R17, R18, R108, R109);
none for a register of a group field's default set. -/
def SysReg.fixedField : SysReg → Option Field
  | .amair2El1 => some .nAmair2El1
  | .mair2El1 => some .nMair2El1
  | .s2porEl1 => some .nS2porEl1
  | .porEl1 => some .nPorEl1
  | .porEl0 => some .nPorEl0
  | .pirEl1 => some .nPirEl1
  | .pire0El1 => some .nPire0El1
  | .rcwmaskEl1 => some .nRcwmaskEl1
  | .tpidr2El0 => some .nTpidr2El0
  | .smpriEl1 => some .nSmpriEl1
  | .gcscrEl1 => none
  | .gcsprEl1 => none
  | .gcscre0El1 => none
  | .gcsprEl0 => none
  | .accdataEl1 => some .nAccdataEl1
  | .erxaddrEl1 => some .erxaddrEl1
  | .erxpfgcdnEl1 => some .erxpfgcdnEl1
  | .erxpfgctlEl1 => some .erxpfgctlEl1
  | .erxpfgfEl1 => some .erxpfgfEl1
  | .erxmisc0El1 => none
  | .erxmisc1El1 => none
  | .erxmisc2El1 => none
  | .erxmisc3El1 => none
  | .erxstatusEl1 => some .erxstatusEl1
  | .erxctlrEl1 => some .erxctlrEl1
  | .erxfrEl1 => some .erxfrEl1
  | .errselrEl1 => some .errselrEl1
  | .erridrEl1 => some .erridrEl1
  | .iccIgrpen0El1 => none
  | .iccIgrpen1El1 => none
  | .vbarEl1 => some .vbarEl1
  | .ttbr1El1 => some .ttbr1El1
  | .ttbr0El1 => some .ttbr0El1
  | .tpidrEl0 => some .tpidrEl0
  | .tpidrroEl0 => some .tpidrroEl0
  | .tpidrEl1 => some .tpidrEl1
  | .tcrEl1 => none
  | .tcr2El1 => none
  | .scxtnumEl0 => some .scxtnumEl0
  | .scxtnumEl1 => some .scxtnumEl1
  | .sctlrEl1 => none
  | .sctlr2El1 => none
  | .revidrEl1 => some .revidrEl1
  | .parEl1 => some .parEl1
  | .mpidrEl1 => some .mpidrEl1
  | .midrEl1 => some .midrEl1
  | .mairEl1 => some .mairEl1
  | .lorsaEl1 => some .lorsaEl1
  | .lornEl1 => some .lornEl1
  | .loridEl1 => some .loridEl1
  | .loreaEl1 => some .loreaEl1
  | .lorcEl1 => some .lorcEl1
  | .isrEl1 => some .isrEl1
  | .farEl1 => some .farEl1
  | .esrEl1 => some .esrEl1
  | .dczidEl0 => some .dczidEl0
  | .ctrEl0 => some .ctrEl0
  | .csselrEl1 => some .csselrEl1
  | .cpacrEl1 => some .cpacrEl1
  | .contextidrEl1 => some .contextidrEl1
  | .clidrEl1 => some .clidrEl1
  | .ccsidrEl1 => some .ccsidrEl1
  | .apibKeyHiEl1 => none
  | .apibKeyLoEl1 => none
  | .apiaKeyHiEl1 => none
  | .apiaKeyLoEl1 => none
  | .apgaKeyHiEl1 => none
  | .apgaKeyLoEl1 => none
  | .apdbKeyHiEl1 => none
  | .apdbKeyLoEl1 => none
  | .apdaKeyHiEl1 => none
  | .apdaKeyLoEl1 => none
  | .amairEl1 => some .amairEl1
  | .aidrEl1 => some .aidrEl1
  | .afsr1El1 => some .afsr1El1
  | .afsr0El1 => some .afsr0El1
  | .tpidrurw => some .tpidrEl0
  | .tpidruro => some .tpidrroEl0

/-- The default `BITPOS`: descending from bit 63 in the source's order, bit 51 being the reserved entry (R17, D1). -/
def defaultBitpos : List Nat :=
  ([63, 62, 61, 60, 59, 58, 57, 56, 55, 54, 53, 52, 50, 49, 48, 47, 46, 45, 44, 43, 42] : List Nat) ++
  ([41, 40, 39, 38, 37, 36, 35, 34, 33, 32, 31, 30, 29, 28, 27, 26, 25, 24, 23, 22, 21] : List Nat) ++
  ([20, 19, 18, 17, 16, 15, 14, 13, 12, 11, 10, 9, 8, 7, 6, 5, 4, 3, 2, 1, 0] : List Nat)

/-- The default register sets of the eleven group fields (R18, D2). -/
def defaultGroupSets : List (SysReg × Field) :=
  ([(.gcscrEl1, .nGcsEl1), (.gcsprEl1, .nGcsEl1), (.gcscre0El1, .nGcsEl0), (.gcsprEl0, .nGcsEl0)] : List (SysReg × Field)) ++
  ([(.erxmisc0El1, .erxmiscnEl1), (.erxmisc1El1, .erxmiscnEl1), (.erxmisc2El1, .erxmiscnEl1), (.erxmisc3El1, .erxmiscnEl1)] : List (SysReg × Field)) ++
  ([(.iccIgrpen0El1, .iccIgrpennEl1), (.iccIgrpen1El1, .iccIgrpennEl1), (.tcrEl1, .tcrEl1), (.tcr2El1, .tcrEl1)] : List (SysReg × Field)) ++
  ([(.sctlrEl1, .sctlrEl1), (.sctlr2El1, .sctlrEl1), (.apibKeyHiEl1, .apibKey), (.apibKeyLoEl1, .apibKey)] : List (SysReg × Field)) ++
  ([(.apiaKeyHiEl1, .apiaKey), (.apiaKeyLoEl1, .apiaKey), (.apgaKeyHiEl1, .apgaKey), (.apgaKeyLoEl1, .apgaKey)] : List (SysReg × Field)) ++
  ([(.apdbKeyHiEl1, .apdbKey), (.apdbKeyLoEl1, .apdbKey), (.apdaKeyHiEl1, .apdaKey), (.apdaKeyLoEl1, .apdaKey)] : List (SysReg × Field))

/-- The configuration of State.reset: the conventions of spec/95_test_vectors.md, EL3 implemented, the source's value
of `EC_MRRS`, and the general-knowledge value 0x03 of `EC_MRC` (log 7, 12). -/
def defaultConfig : Config where
  haveFGT := true
  haveEL2 := true
  haveEL3 := true
  bitpos := defaultBitpos
  groupSets := defaultGroupSets
  absent := []
  res0Stored := false
  ecMRRS := 0x18#6
  ecMRC := 0x03#6
  resetPC := 0#64

/-- `BITPOS(F)` (R17). -/
def Config.bitOf (c : Config) (f : Field) : Nat := c.bitpos.getD f.idx 0

/-- `FeatOf(F)`: true for the 27 unconditional fields, a parameter for the others (R21, D5). -/
def Config.featOf (c : Config) (f : Field) : Bool := !(f.conditional && c.absent.contains f)

/-- The field whose `TrapSet` holds a register, if any (R18). A register has at most one (R167). -/
def Config.fieldOf (c : Config) (r : SysReg) : Option Field :=
  match r.fixedField with
  | some f => some f
  | none => (c.groupSets.find? (fun p => p.1 == r)).map Prod.snd

/-- `BITPOS` is an injection of the 63 fields into the 64 bits, so that the one bit left is the reserved bit (R77, D29). -/
abbrev Config.BitposWf (c : Config) : Prop :=
  c.bitpos.length = 63 ∧ c.bitpos.Nodup ∧ ∀ b ∈ c.bitpos, b < 64

/-- The configured sets belong to group fields, and no register is in two sets (R77, D29). -/
abbrev Config.GroupsWf (c : Config) : Prop :=
  (c.groupSets.map Prod.fst).Nodup ∧ ∀ p ∈ c.groupSets, p.2.isGroup = true ∧ p.1.fixedField = none

/-- A well-formed configuration; any other is refused (R77, R167, D29). -/
abbrev Config.Wf (c : Config) : Prop := c.BitposWf ∧ c.GroupsWf

/-- The bits of `HFGRTR_EL2` that are not RES0: the named fields whose feature is implemented, none without EL2
(R15, R20, R21). -/
def Config.implMask (c : Config) : Word :=
  if c.haveEL2 then
    Field.all.foldl (fun m f => if c.featOf f then m ||| (1#64 <<< c.bitOf f) else m) 0#64
  else 0#64

/-- A value as the register holds and returns it: RES0 bits are 0 unless they are storage (R20, R152). -/
def Config.maskRES0 (c : Config) (v : Word) : Word := if c.res0Stored then v else v &&& c.implMask

end Sys2Proof
end

