-- ==== Sys2Proof/Machine/State.lean ====
section
/-! DEFINITION. The state of the machine, all plain data, the reasons a step can stop, and the state after reset. -/

namespace Sys2Proof.Machine

/-- The Exception levels (R23, R172). -/
inductive EL where
  | el0 | el1 | el2 | el3
deriving DecidableEq, Repr

/-- The levels an exception can be taken to (R157, R160). -/
inductive Target where
  | el1 | el2 | el3
deriving DecidableEq, Repr

/-- What of `PSTATE` the spec names: the level (R23), the masks D, A, I, F and SP (R163), and the instruction set of
the current level (R69). It is saved whole into `SPSR_ELx` (R163), for which the spec gives no layout. -/
structure PState where
  el : EL
  daif : BitVec 4
  sp : Bool
  iset : ISet
deriving DecidableEq, Repr

/-- The registers an exception to one level uses (R162, R163). -/
structure ExcRegs where
  elr : Word
  spsr : PState
  esr : Word
  vbar : Word
deriving DecidableEq, Repr

/-- An exception: a System access trap to a level with its EC (R157), or UNDEFINED (R160). -/
inductive Exn where
  | trap (target : Target) (ec : BitVec 6)
  | undefined
deriving DecidableEq, Repr

/-- What the rest of the machine does with a read that this hardware does not trap (R79): it completes, or it is
UNDEFINED or trapped by another control. -/
inductive Untrapped where
  | completes
  | raises (e : Exn)
deriving DecidableEq, Repr

/-- A read: its kind, its register, the level it executes at and the execution state (R73). -/
structure Read where
  kind : ReadKind
  reg : SysReg
  el : EL
  iset : ISet
deriving DecidableEq, Repr

/-- Who performs a memory event (R52): the one agent of the model (R10). -/
inductive Performer where
  | pe
deriving DecidableEq, Repr

/-- Which way a memory event goes (R52). -/
inductive Direction where
  | read | write
deriving DecidableEq, Repr

/-- The record of one `NVMem` access (R52): its performer, its address `NVAddr(0x1B8)`, its size in bytes, the value
read or written, and which of the two it was. -/
structure MemEvent where
  performer : Performer
  address : Word
  size : Nat
  value : Word
  direction : Direction
deriving DecidableEq, Repr

/-- Context (R6): state of the surrounding machine and its oracles' answers, read at each step, never written by an
instruction of this hardware. -/
structure Context where
  /-- `SCR_EL3.FGTEn` (R24). -/
  fgten : Bool
  /-- EL2 is enabled in the current Security state (R26). -/
  el2Enabled : Bool
  /-- The Effective value of `HCR_EL2.{E2H, TGE}`, E2H in bit 1 (R25). -/
  e2hTge : BitVec 2
  /-- `EffectiveHCR_EL2_NVx()`, NV2 : NV1 : NV (R25). -/
  nvx : BitVec 3
  /-- EL1 is using AArch64 (R26): an opaque predicate (D28), which nothing ties to `PState.iset` (DESIGN CHOICE,
  log 31). While it is false no read is covered (R171). -/
  el1A64 : Bool
  /-- `EL3SDDUndef()` (R26). -/
  sddUndef : Bool
  /-- `EL3SDDUndefPriority()` (R26). -/
  sddUndefPriority : Bool
  /-- `NVBase` (R44). -/
  nvBase : Word
  /-- `NVBigEndian` (R47). -/
  nvBigEndian : Bool
  /-- The memory oracle answers abort to the `NVMem` access (R50). -/
  nvAbort : Bool
  /-- The oracle `HigherPriority` (R6, R78), as the table of the reads it answers with an exception: the first entry
  of a read is its answer, and a read without an entry has none (log 6). -/
  higherPriority : List (Read × Exn)
  /-- What the rest of the machine does with an untrapped read (R79). -/
  untrapped : Untrapped
  /-- While a write is pending, a trap rule uses the old value (R33). -/
  useOld : Bool
  /-- The AArch32 condition of an `MRC` passes (R60, log 23). -/
  condPassed : Bool
deriving DecidableEq, Repr

/-- What the rest of the machine does between two instructions of this hardware (log 24). None of these writes
`HFGRTR_EL2`, but for `reset` (R34). -/
inductive RestEvent where
  /-- A context synchronization event, such as an `ISB` (R33, R53). -/
  | contextSync
  /-- A change of Exception level made by the rest of the machine (R193; the "level change" lines of 95 section 3). -/
  | levelChange (el : EL) (iset : ISet) (pc : Word)
  /-- An exception return from the current level (R164). -/
  | exceptionReturn
  /-- The context changes (R10: software at a higher level writes `SCR_EL3` or `HCR_EL2`; R78: an oracle's answers). -/
  | setContext (c : Context)
  /-- The rest of the machine writes a general register. -/
  | writeX (t : BitVec 5) (v : Word)
  /-- The rest of the machine writes the exception registers of a level. -/
  | writeExc (t : Target) (r : ExcRegs)
  /-- The rest of the machine, or another agent, writes a byte of memory (R52). -/
  | writeMem (a : Word) (b : Byte)
  /-- Reset, with the value drawn for the register (R187). -/
  | reset (draw : Word)
deriving DecidableEq, Repr

/-- Whose turn is next (R10: one agent, one instruction a step, and software at another level between two of them):
an instruction of the program text, or an input of the rest of the machine (log 24). -/
inductive Turn where
  | instruction
  | input (e : RestEvent)
deriving DecidableEq, Repr

/-- The machine. -/
structure State where
  /-- The configuration (R6); fixed for a run. -/
  cfg : Config
  /-- `X0` to `X30` (R27). -/
  x : Vector (BitVec 64) 31
  /-- The program counter (R28). -/
  pc : Word
  /-- `PSTATE` (R23, R163). -/
  pstate : PState
  /-- `HFGRTR_EL2` (R13). -/
  hfgrtr : Word
  /-- The old value of `HFGRTR_EL2` that may still be in use (R33). -/
  pending : Option Word
  /-- The context (R6). -/
  ctx : Context
  /-- `ELR_EL1`, `SPSR_EL1`, `ESR_EL1`, `VBAR_EL1` (R162, R163). -/
  exc1 : ExcRegs
  /-- `ELR_EL2`, `SPSR_EL2`, `ESR_EL2`, `VBAR_EL2`. -/
  exc2 : ExcRegs
  /-- `ELR_EL3`, `SPSR_EL3`, `ESR_EL3`, `VBAR_EL3`. -/
  exc3 : ExcRegs
  /-- Memory, by byte address; a byte not listed reads 0 (R45, log 20). -/
  mem : List Host.Cell
  /-- The program text, by byte address (R55). -/
  text : List Host.Cell
  /-- The record of the `NVMem` accesses made, in program order (R52). -/
  events : List MemEvent
  /-- The turns to come: instructions, and inputs of the rest of the machine between any two of them; when none is
  listed, instructions follow one another (log 24). -/
  rest : List Turn
  /-- How many free values have been drawn (log 4, 5). -/
  freeCount : Nat
deriving DecidableEq, Repr

/-- Why a step faults. -/
inductive Fault where
  /-- Raised by the `NVMem[0x1B8]` access of an accessor at EL1 when the memory oracle answers abort
  (R50, R161). Safe: the model stops where the hardware takes a Data Abort. -/
  | nvMemAbort
deriving DecidableEq, Repr

/-- Why a step is refused. Every one is safe: the model stops and says nothing of what follows. -/
inductive Refusal where
  /-- Raised by `exec` for an instruction that has no meaning yet (none). Safe. -/
  | notModelled (mnemonic : String)
  /-- Raised by `step` for bytes that are no row of the opcode table (R68, D30). Safe. -/
  | undecoded (e : DecodeError)
  /-- Raised by `step` at the end of the program text, where a run stops (R199). Safe. -/
  | endOfText
  /-- Raised by `step` for a pc that is not aligned to the instruction set (R28; what happens is not in the spec). Safe. -/
  | misalignedPc
  /-- Raised by an instruction that completes at the top of the address space (R28, D18). Safe. -/
  | pcWrap
  /-- Raised by every instruction under an ill-formed configuration (R77, D29). Safe. -/
  | illFormedConfig
  /-- Raised by every instruction, and by a change of context, in a state whose `NVBase` is not a multiple of 8
  (R48, D12). Safe. -/
  | nvBaseMisaligned
  /-- Raised by the `NVMem[0x1B8]` access, and by a change of context, where the location would overlap the program
  text (R55, D23). Safe. -/
  | nvOverlapsText
  /-- Raised by an exception taken to EL1 using AArch32: the spec describes the entry to a level using AArch64 only
  (R163). Safe. -/
  | aarch32Entry
  /-- Raised when the rest of the machine answers or does what no machine can: an exception taken to a level that is
  absent or below the current one, a level change to an absent level, an exception return that cannot be (R157,
  R172). Safe. -/
  | illFormedContext
deriving DecidableEq, Repr

/-- The highest implemented level, where execution starts after reset (R32, R188: general knowledge). -/
def highestEL (c : Config) : EL :=
  if c.haveEL3 then .el3 else if c.haveEL2 then .el2 else .el1

/-- `PSTATE` after reset: the highest implemented level, masked, SP = 1, A64 (log 14). -/
def resetPState (c : Config) : PState :=
  { el := highestEL c, daif := 0b1111#4, sp := true, iset := .a64 }

/-- Exception registers after reset: the spec gives no value (log 14). -/
def resetExc : ExcRegs :=
  { elr := 0#64, spsr := { el := .el0, daif := 0#4, sp := false, iset := .a64 }, esr := 0#64, vbar := 0#64 }

/-- The context after reset: the conventions of spec/95_test_vectors.md, 0 where they say nothing (log 14). -/
def resetContext : Context where
  fgten := false
  el2Enabled := true
  e2hTge := 0#2
  nvx := 0#3
  el1A64 := true
  sddUndef := false
  sddUndefPriority := false
  nvBase := 0#64
  nvBigEndian := false
  nvAbort := false
  higherPriority := []
  untrapped := .completes
  useOld := false
  condPassed := true

/-- The state after reset of a configuration, with the value drawn for the register: its RES0 bits follow R20
(R31, R187). -/
def State.resetWith (c : Config) (draw : Word) : State where
  cfg := c
  x := Vector.replicate 31 0#64
  pc := c.resetPC
  pstate := resetPState c
  hfgrtr := c.maskRES0 draw
  pending := none
  ctx := resetContext
  exc1 := resetExc
  exc2 := resetExc
  exc3 := resetExc
  mem := []
  text := []
  events := []
  rest := []
  freeCount := 0

/-- The machine right after reset, with the default configuration and the draw 0 (log 7, 13). -/
def State.reset : State := State.resetWith defaultConfig 0#64

end Sys2Proof.Machine
end

