-- ==== Sys2Proof/Machine/Flags.lean ====
section
/-! DEFINITION. The hardware has no flags (R29: no rule reads or writes one). The one condition an instruction of the
table can carry is the `cond` field of an A32 `MRC` (R60); what the flags make of it is context. -/

namespace Sys2Proof.Machine

/-- The condition of an `MRC` holds: always for `1110` (R61, "always") and for `1111`, which names no test of the
flags; for any other the flags of the rest of the machine decide (log 23). -/
def condHolds (s : State) (cond : BitVec 4) : Bool :=
  cond.extractLsb' 1 3 == 0b111#3 || s.ctx.condPassed

end Sys2Proof.Machine
end

