-- ==== Sys2Proof/Machine/Operands.lean ====
section
/-! DEFINITION. The operand forms: the general registers as `X[t, 64]`, the pair of `MRRS`, the register of `MRC`. -/

namespace Sys2Proof.Machine

/-- `X[t, 64]` as a source: register 31 is XZR and reads 0 (R27, R62). -/
def readX (s : State) (t : BitVec 5) : Word :=
  if h : t.toNat < 31 then s.x[t.toNat] else 0#64

/-- `X[t, 64] = v`: register 31 is XZR and discards the value (R27, R62). -/
def writeX (s : State) (t : BitVec 5) (v : Word) : State :=
  if h : t.toNat < 31 then { s with x := s.x.set t.toNat v } else s

/-- The pair of `MRRS`: the low half into `Xt`, the high half into `Xt+1` (R27, R60). -/
def writeXPair (s : State) (t : BitVec 5) (v : BitVec 128) : State :=
  writeX (writeX s t (v.extractLsb' 0 64)) (t + 1#5) (v.extractLsb' 64 64)

/-- The register of `MRC`: `Rt` 0 to 14 is held in the general register of the same number; with `Rt` = 15 no general
register is written (log 23). The spec says nothing of the upper half of the 64 bits, so a value for all of them is
given. -/
def writeR (s : State) (t : BitVec 4) (v : Word) : State :=
  if t = 15#4 then s else writeX s (t.setWidth 5) v

end Sys2Proof.Machine
end

