-- ==== Sys2Proof/Machine/Ops.lean ====
section
/-! DEFINITION. The named operations: memory, the register, the program counter, the context's predicates, taking an
exception and returning from one. -/

namespace Sys2Proof.Machine

/-! ### Cells: lists of (address, byte) in rising order -/

/-- The byte listed at an address, if one is. -/
def lookupCell (a : Nat) : List Host.Cell → Option Byte
  | [] => none
  | (a', b) :: r => if a' = a then some b else lookupCell a r

/-- List a byte at an address, in the place of one listed before. -/
def insertCell (a : Nat) (b : Byte) : List Host.Cell → List Host.Cell
  | [] => [(a, b)]
  | (a', b') :: r =>
    if a < a' then (a, b) :: (a', b') :: r
    else if a = a' then (a, b) :: r
    else (a', b') :: insertCell a b r

/-- List nothing at an address. -/
def eraseCell (a : Nat) (m : List Host.Cell) : List Host.Cell := m.filter (fun p => p.1 != a)

/-- What a byte of memory that is not listed reads as (log 20). -/
def unlistedByte : Byte := 0#8

/-- The byte of memory at an address. -/
def memRead (m : List Host.Cell) (a : Nat) : Byte := (lookupCell a m).getD unlistedByte

/-- Write a byte of memory; a byte that an unlisted address reads as is not listed. -/
def memWrite (m : List Host.Cell) (a : Nat) (b : Byte) : List Host.Cell :=
  if b = unlistedByte then eraseCell a m else insertCell a b m

/-- Write bytes at increasing addresses. -/
def memWriteBytes (m : List Host.Cell) (a : Nat) : List Byte → List Host.Cell
  | [] => m
  | b :: bs => memWriteBytes (memWrite m a b) (a + 1) bs

/-- Addresses strictly rising and within the 64-bit address space. -/
abbrev cellsRising (m : List Host.Cell) : Prop :=
  (m.map Prod.fst).Pairwise (· < ·) ∧ ∀ p ∈ m, p.1 < 2 ^ 64

/-- The one canonical form of memory: rising, and no entry that an unlisted address reads as. -/
abbrev Memory.wf (m : List Host.Cell) : Prop := cellsRising m ∧ ∀ p ∈ m, p.2 ≠ unlistedByte

/-! ### The context's predicates and functions -/

/-- `EL2Enabled(s)`: EL2 is implemented and enabled in the current Security state (R26, R74). -/
def el2Enabled (s : State) : Bool := s.cfg.haveEL2 && s.ctx.el2Enabled

/-- `FGTEn(s) == 1` (R24). -/
def fgtEn (s : State) : Bool := s.ctx.fgten

/-- `EffE2H_TGE(s)`, E2H in bit 1 and TGE in bit 0 (R25); {0, 0} without EL2, which holds the register (log 25). -/
def effE2hTge (s : State) : BitVec 2 := if s.cfg.haveEL2 then s.ctx.e2hTge else 0#2

/-- `EffNVx(s)`, NV2 : NV1 : NV (R25); '000' without EL2 (R15). -/
def effNVx (s : State) : BitVec 3 := if s.cfg.haveEL2 then s.ctx.nvx else 0#3

/-- `EffNVx(s) IN {'1x1'}` (R7, R146). -/
def nvMatches1x1 (s : State) : Bool := (effNVx s).getLsbD 2 && (effNVx s).getLsbD 0

/-- `EffNVx(s) IN {'xx1'}` (R7, R146). -/
def nvMatchesxx1 (s : State) : Bool := (effNVx s).getLsbD 0

/-- `EL3SDDUndef(s)` (R26). -/
def el3SDDUndef (s : State) : Bool := s.ctx.sddUndef

/-- `EL3SDDUndefPriority(s)`, which implies `EL3SDDUndef(s)` (R26, D16). -/
def el3SDDUndefPriority (s : State) : Bool := s.ctx.sddUndefPriority && s.ctx.sddUndef

/-! ### The register -/

/-- The value a direct read of `HFGRTR_EL2` returns: the value held, RES0 bits as R20 says; a pending write is
visible to it (R33, R146, R192). -/
def readHfgrtr (s : State) : Word := s.cfg.maskRES0 s.hfgrtr

/-- `HFGRTR_EL2 <- v`: RES0 bits as R20 says, and the value held before may still be in use (R33, R152). -/
def writeHfgrtr (s : State) (v : Word) : State :=
  { s with hfgrtr := s.cfg.maskRES0 v, pending := some s.hfgrtr }

/-- The value the trap rules use: the value held, or while a write is pending the old one (R13, R33). -/
def governing (s : State) : Word :=
  match s.pending with
  | some old => if s.ctx.useOld then old else s.hfgrtr
  | none => s.hfgrtr

/-- A context synchronization event: the old value is no longer in use (R33, R53). -/
def contextSync (s : State) : State := { s with pending := none }

/-! ### The location `NVMem[0x1B8]` -/

/-- `NVAddr(0x1B8) = NVBase(s) + 0x1B8`, modulo 2^64 (R44). -/
def nvAddr (s : State) : Word := s.ctx.nvBase + 0x1B8#64

/-- Byte `i` of a 64-bit value at increasing addresses: bits `[8i+7:8i]` little-endian, `[63-8i:56-8i]` big-endian
(R47). -/
def byteOf (big : Bool) (v : Word) (i : Nat) : Byte :=
  if big then v.extractLsb' (56 - 8 * i) 8 else v.extractLsb' (8 * i) 8

/-- The eight bytes of a value at increasing addresses (R47). -/
def bytesOf (big : Bool) (v : Word) : List Byte :=
  [byteOf big v 0, byteOf big v 1, byteOf big v 2, byteOf big v 3,
   byteOf big v 4, byteOf big v 5, byteOf big v 6, byteOf big v 7]

/-- `MemRead(a, 8)` under a byte order (R45, R47). -/
def memRead64 (big : Bool) (m : List Host.Cell) (a : Nat) : Word :=
  let b (i : Nat) : Byte := memRead m (a + i)
  if big then b 0 ++ b 1 ++ b 2 ++ b 3 ++ b 4 ++ b 5 ++ b 6 ++ b 7
  else b 7 ++ b 6 ++ b 5 ++ b 4 ++ b 3 ++ b 2 ++ b 1 ++ b 0

/-- `NVRead(0x1B8)`: no RES0 masking (R45). -/
def nvRead (s : State) : Word := memRead64 s.ctx.nvBigEndian s.mem (nvAddr s).toNat

/-- `NVWrite(0x1B8, v)`: all 64 bits, the register untouched (R46). -/
def nvWrite (s : State) (v : Word) : State :=
  { s with mem := memWriteBytes s.mem (nvAddr s).toNat (bytesOf s.ctx.nvBigEndian v) }

/-- The record of an access to the location: one event, by the PE, of 8 bytes (R52). -/
def recordNV (s : State) (d : Direction) (v : Word) : State :=
  { s with events := s.events ++ [{ performer := .pe, address := nvAddr s, size := 8, value := v, direction := d }] }

/-- `NVBase(s) mod 8 = 0` (R48). -/
def nvAligned (s : State) : Bool := s.ctx.nvBase.toNat % 8 == 0

/-- An address is outside the eight bytes of `NVMem[0x1B8]` (R44, R48). -/
abbrev outsideNVMem (s : State) (a : Nat) : Prop := a < (nvAddr s).toNat ∨ (nvAddr s).toNat + 8 ≤ a

/-- The location is disjoint from the program text, as a well-formed state keeps it (R55, D23). -/
abbrev nvOffText (s : State) : Prop := ∀ p ∈ s.text, outsideNVMem s p.1

/-- What the model requires of a state before an instruction runs: a well-formed configuration (R77, D29) and an
aligned `NVBase` (R48, D12). -/
abbrev State.Wf (s : State) : Prop := s.cfg.Wf ∧ nvAligned s = true

/-! ### Exceptions -/

/-- The order EL0 < EL1 < EL2 < EL3 (R8). -/
def EL.num : EL → Nat
  | .el0 => 0
  | .el1 => 1
  | .el2 => 2
  | .el3 => 3

/-- The level an exception is taken to. -/
def Target.el : Target → EL
  | .el1 => .el1
  | .el2 => .el2
  | .el3 => .el3

/-- Levels EL0 and EL1 are always there, EL2 and EL3 optional (R172). -/
def levelImplemented (c : Config) : EL → Bool
  | .el0 => true
  | .el1 => true
  | .el2 => c.haveEL2
  | .el3 => c.haveEL3

/-- The exception registers of a level. -/
def excRegs (s : State) : Target → ExcRegs
  | .el1 => s.exc1
  | .el2 => s.exc2
  | .el3 => s.exc3

/-- Replace the exception registers of a level. -/
def setExcRegs (s : State) (t : Target) (r : ExcRegs) : State :=
  match t with
  | .el1 => { s with exc1 := r }
  | .el2 => { s with exc2 := r }
  | .el3 => { s with exc3 := r }

/-- The vector offset: 0x400 from a lower level using AArch64, 0x600 from a lower level using AArch32 (R163); for an
exception taken to the current level 0x200 with SP = 1 and 0x000 with SP = 0 (PRESUMED, log 2). -/
def vectorOffset (s : State) (t : Target) : Word :=
  if s.pstate.el.num < t.el.num then
    (if s.pstate.iset = .a64 then 0x400#64 else 0x600#64)
  else if s.pstate.sp then 0x200#64 else 0x000#64

/-- The syndrome register's value: EC in bits 31:26, IL = 1 in bit 25, the ISS below (R162), and what stands above. -/
def esrValue (high : BitVec 32) (ec : BitVec 6) (iss : BitVec 25) : Word := high ++ ec ++ 1#1 ++ iss

/-- Bits 63:32 of the syndrome register: 0 for EC 0x18, for which R162 gives the whole value; for any other EC the spec
gives none, and they are a free value (DESIGN CHOICE, log 4). -/
def esrHigh (s : State) (ec : BitVec 6) : BitVec 32 :=
  if ec = 0x18#6 then 0#32 else Config.freeEsrHigh s.freeCount

/-- The state after exception entry to a level (R163): `ELR` holds the address of the instruction, `SPSR` the `PSTATE`,
`ESR` the syndrome; the level is the target, D, A, I, F and SP are 1, the execution state is AArch64, the pc is at the
vector; it is a context synchronization event. No other register, and no memory, is written (R157).
R163's "execution state of ELx" is AArch64 for EL2 and EL3, also from AArch32 code at that same level: the spec has no
parameter for the execution state of those two levels (DESIGN CHOICE, log 26). -/
def enterException (s : State) (t : Target) (ec : BitVec 6) (iss : BitVec 25) : State :=
  { setExcRegs s t { excRegs s t with elr := s.pc, spsr := s.pstate, esr := esrValue (esrHigh s ec) ec iss } with
    pc := (excRegs s t).vbar + vectorOffset s t
    pstate := { el := t.el, daif := 0b1111#4, sp := true, iset := .a64 }
    pending := none
    freeCount := s.freeCount + 1 }

/-- TAKING AN EXCEPTION (R157, R160, R162, R163). An entry to EL1 is refused while EL1 is using AArch32 (log 26),
which `ctx.el1A64` says and not `pstate.iset` (log 31). -/
def takeException (s : State) (t : Target) (ec : BitVec 6) (iss : BitVec 25) :
    Host.Outcome State Fault Refusal :=
  if levelImplemented s.cfg t.el = false ∨ t.el.num < s.pstate.el.num then .refused .illFormedContext
  else if t = .el1 ∧ s.ctx.el1A64 = false then .refused .aarch32Entry
  else .next (enterException s t ec iss)

/-- Where UNDEFINED is taken: from EL0 to EL1, or to EL2 when TGE is 1; otherwise to the level it is executed at
(R160). -/
def undefinedTarget (s : State) : Target :=
  match s.pstate.el with
  | .el0 => if (effE2hTge s).getLsbD 0 then .el2 else .el1
  | .el1 => .el1
  | .el2 => .el2
  | .el3 => .el3

/-- The level whose exception registers an exception return uses. -/
def returnSource : EL → Option Target
  | .el0 => none
  | .el1 => some .el1
  | .el2 => some .el2
  | .el3 => some .el3

/-- RETURNING FROM AN EXCEPTION (R164): `PSTATE` from `SPSR`, the pc from `ELR`, a context synchronization event. None
at EL0, and none to a level that is absent or higher. -/
def exceptionReturn (s : State) : Option State :=
  match returnSource s.pstate.el with
  | none => none
  | some t =>
    let r := excRegs s t
    if levelImplemented s.cfg r.spsr.el ∧ r.spsr.el.num ≤ s.pstate.el.num then
      some { s with pc := r.elr, pstate := r.spsr, pending := none }
    else none

/-- The Instruction Specific Syndrome of EC 0x18: Op0 [21:20], Op2 [19:17], Op1 [16:14], CRn [13:10], Rt [9:5],
CRm [4:1], Direction [0] (R162). -/
def issOf (p : Point) (t : BitVec 5) (isRead : Bool) : BitVec 25 :=
  0#3 ++ p.extractLsb' 14 2 ++ p.extractLsb' 0 3 ++ p.extractLsb' 11 3 ++ p.extractLsb' 7 4 ++ t ++
    p.extractLsb' 3 4 ++ (if isRead then 1#1 else 0#1)

/-- The ISS the layout of R162 gives an access; an `MRC` has no coordinates of that layout. -/
def accessISS : Access → Option (BitVec 25)
  | .mrsH t => some (issOf hfgrtrPoint t true)
  | .msrH t => some (issOf hfgrtrPoint t false)
  | .mrs r t => r.point?.map (fun p => issOf p t true)
  | .mrrs r t => r.point?.map (fun p => issOf p t true)
  | .mrc _ _ _ => none

/-- The ISS reported with an EC: the layout of R162 for EC 0x18, a free value where the spec gives none (log 4). -/
def syndromeISS (s : State) (a : Access) (ec : BitVec 6) : BitVec 25 :=
  if ec = 0x18#6 then (accessISS a).getD (Config.freeISS s.freeCount) else Config.freeISS s.freeCount

/-- Raise an exception instead of an access: a System access trap with its EC (R157), or UNDEFINED with EC 0x00
(R160). -/
def raiseException (s : State) (a : Access) : Exn → Host.Outcome State Fault Refusal
  | .trap t ec => takeException s t ec (syndromeISS s a ec)
  | .undefined => takeException s (undefinedTarget s) 0x00#6 (syndromeISS s a 0x00#6)

end Sys2Proof.Machine
end

