-- ==== Sys2Proof/Machine/Outcome.lean ====
section
/-! DEFINITION. The outcomes of a step as the spec lists them (R177), and what each is to the host. -/

namespace Sys2Proof.Machine

/-- The outcome of an instruction by the spec's own list (R177). `raise` is `Trap(target, ec)` or `Undefined`, with the
state unchanged; `notThisHardware` is a covered or uncovered read that this mechanism does not trap (R79); `refuse` is
a state the spec refuses. -/
inductive Result where
  | next (s : State)
  | raise (e : Exn)
  | nvMemAbort
  | notThisHardware
  | refuse (r : Refusal)
deriving DecidableEq, Repr

/-- An instruction completes: `pc <- pc + 4`; wrap-around is refused (R28, D18). -/
def finish (s : State) : Result :=
  if s.pc.toNat + 4 < 2 ^ 64 then .next { s with pc := s.pc + 4#64 } else .refuse .pcWrap

/-- The destination of a read that the rest of the machine completes, written with a value the model says nothing of
(R5, R79, log 5): 64 bits for `MRS`, 128 for `MRRS`. -/
def completeRead (s : State) : Access → State
  | .mrs r t => { writeX s t ((Config.freeRead r s.freeCount).extractLsb' 0 64) with freeCount := s.freeCount + 1 }
  | .mrrs r t => { writeXPair s t (Config.freeRead r s.freeCount) with freeCount := s.freeCount + 1 }
  | .mrc r _ t => { writeR s t ((Config.freeRead r s.freeCount).extractLsb' 0 64) with freeCount := s.freeCount + 1 }
  | .mrsH _ => s
  | .msrH _ => s

/-- A read that this hardware does not trap is handed to the rest of the machine (R79). -/
def handOver (s : State) (a : Access) : Host.Outcome State Fault Refusal :=
  match s.ctx.untrapped with
  | .completes =>
    match finish (completeRead s a) with
    | .next s' => .next s'
    | _ => .refused .pcWrap
  | .raises e => raiseException s a e

/-- What a result is to the host: an exception is taken, an untrapped read handed over. -/
def deliver (s : State) (a : Access) : Result → Host.Outcome State Fault Refusal
  | .next s' => .next s'
  | .raise e => raiseException s a e
  | .nvMemAbort => .fault .nvMemAbort
  | .notThisHardware => handOver s a
  | .refuse r => .refused r

/-- Run an access whose result is given; an ill-formed configuration is refused (R77, D29), and so is a state whose
`NVBase` is off alignment (R48, D12). -/
def runAccess (s : State) (a : Access) (r : Result) : Host.Outcome State Fault Refusal :=
  if s.cfg.Wf then (if nvAligned s then deliver s a r else .refused .nvBaseMisaligned)
  else .refused .illFormedConfig

end Sys2Proof.Machine
end

