-- ==== Sys2Proof/Machine/Accessors.lean ====
section
/-! DEFINITION. The accessors `MRS <Xt>, HFGRTR_EL2` and `MSR HFGRTR_EL2, <Xt>` (R144 to R155). -/

namespace Sys2Proof.Machine

/-- An access to `NVMem[0x1B8]`: refused where the location overlaps the program text (R55), a fault when the memory
oracle answers abort (R50). -/
def nvAccess (s done : State) : Result :=
  if nvOffText s then (if s.ctx.nvAbort then .nvMemAbort else finish done) else .refuse .nvOverlapsText

/-- The chain both accessors follow (R146, R150): `viaMem` is the state after the transfer with `NVMem[0x1B8]`, `viaReg`
the state after the transfer with the register. -/
def accessorChain (s viaMem viaReg : State) : Result :=
  if !s.cfg.haveFGT then .raise .undefined
  else match s.pstate.el with
    | .el0 => .raise .undefined
    | .el1 =>
      if nvMatches1x1 s then nvAccess s viaMem
      else if nvMatchesxx1 s then .raise (.trap .el2 0x18#6)
      else .raise .undefined
    | .el2 =>
      if s.cfg.haveEL3 && el3SDDUndefPriority s && !fgtEn s then .raise .undefined
      else if s.cfg.haveEL3 && !fgtEn s then
        if el3SDDUndef s then .raise .undefined else .raise (.trap .el3 0x18#6)
      else finish viaReg
    | .el3 => finish viaReg

/-- The result of `MRS <Xt>, HFGRTR_EL2` (R146); a redirected access is recorded (R52). -/
def mrsHfgrtrResult (s : State) (t : BitVec 5) : Result :=
  accessorChain s (recordNV (writeX s t (nvRead s)) .read (nvRead s)) (writeX s t (readHfgrtr s))

/-- The result of `MSR HFGRTR_EL2, <Xt>` (R150); a redirected access is recorded (R52). -/
def msrHfgrtrResult (s : State) (t : BitVec 5) : Result :=
  accessorChain s (recordNV (nvWrite s (readX s t)) .write (readX s t)) (writeHfgrtr s (readX s t))

/-- `MRS <Xt>, HFGRTR_EL2` (R146, R147). -/
def execMrsHfgrtrEl2 (t : BitVec 5) (s : State) : Host.Outcome State Fault Refusal :=
  runAccess s (.mrsH t) (mrsHfgrtrResult s t)

/-- `MSR HFGRTR_EL2, <Xt>` (R150, R151, R152). -/
def execMsrHfgrtrEl2 (t : BitVec 5) (s : State) : Host.Outcome State Fault Refusal :=
  runAccess s (.msrH t) (msrHfgrtrResult s t)

end Sys2Proof.Machine
end

