-- ==== Sys2Proof/Machine/Trap.lean ====
section
/-! DEFINITION. The trap mechanism: the one predicate that all 63 fields instantiate (R73 to R79), and the step of a
read. -/

namespace Sys2Proof.Machine

/-- `FGRT_Common(s) := EL2Enabled(s) && (!HaveEL3 || FGTEn(s) == 1)` (R74). -/
def fgrtCommon (s : State) : Bool := el2Enabled s && (!s.cfg.haveEL3 || fgtEn s)

/-- `r.EL in ELs(F)` (R77). -/
def Field.coversLevel (f : Field) : EL → Bool
  | .el0 => f.coversEL0
  | .el1 => true
  | .el2 => false
  | .el3 => false

/-- `Covers(F, r)` (R77): an `MRC` is covered at EL0 using AArch32, any other kind using AArch64. The execution state
is that of the read. -/
def covers (c : Config) (f : Field) (r : Read) : Bool :=
  c.fieldOf r.reg == some f && Field.coversLevel f r.el && f.kinds.contains r.kind &&
    (if r.kind = .mrc then r.iset != .a64 && r.el == .el0 else r.iset == .a64)

/-- A field covers a read in a state: as `Covers(F, r)` says (R77), and none while EL1 is using AArch32, when no read is
covered (R171, D33; log 31). -/
def coveredIn (s : State) (f : Field) (r : Read) : Bool := s.ctx.el1A64 && covers s.cfg f r

/-- `HFGRTR_EL2[BITPOS(F)] == trapval(F)`, on the value that governs (R13, R19, R33). -/
def fieldTraps (s : State) (f : Field) : Bool := (governing s).getLsbD (s.cfg.bitOf f) == f.trapVal

/-- `FGRT_Traps(F, r, s)` (R77), conjunct by conjunct; `coveredIn` stands for `Covers` (R171). -/
def fgrtTraps (s : State) (r : Read) (f : Field) : Bool :=
  s.cfg.haveFGT && s.cfg.featOf f && coveredIn s f r && fgrtCommon s &&
    (!f.coversEL0 || effE2hTge s != 0b11#2) && (!f.needsEL1A64 || s.ctx.el1A64) && fieldTraps s f

/-- `exists F. FGRT_Traps(F, r, s)` (R77). -/
def trapped (s : State) (r : Read) : Bool := Field.all.any (fgrtTraps s r)

/-- `EC(kind)`: 0x18 for `MRS`, the parameters `EC_MRRS` and `EC_MRC` for the others (R77, R158, R159). -/
def ecOf (c : Config) : ReadKind → BitVec 6
  | .mrs => 0x18#6
  | .mrrs => c.ecMRRS
  | .mrc => c.ecMRC

/-- The oracle `HigherPriority(r, s)` (R6, R78): the answer of the context's table for this read (log 6). -/
def higherPriority (s : State) (r : Read) : Option Exn := s.ctx.higherPriority.lookup r

/-- The step of a read (R77): a higher-priority exception first, then the trap to EL2, else the read is not this
hardware's. -/
def readResult (s : State) (r : Read) : Result :=
  match higherPriority s r with
  | some e => .raise e
  | none => if trapped s r then .raise (.trap .el2 (ecOf s.cfg r.kind)) else .notThisHardware

/-- A read of a register by an instruction executed in a state (R73). -/
def readIn (s : State) (kind : ReadKind) (reg : SysReg) : Read :=
  { kind := kind, reg := reg, el := s.pstate.el, iset := s.pstate.iset }

/-- The step of `MRS <Xt>, <reg>` (R77). -/
def runMrs (reg : SysReg) (t : BitVec 5) (s : State) : Host.Outcome State Fault Refusal :=
  runAccess s (.mrs reg t) (readResult s (readIn s .mrs reg))

/-- The step of `MRRS <Xt>, <Xt+1>, <reg>` (R77). -/
def runMrrs (reg : SysReg) (t : BitVec 5) (s : State) : Host.Outcome State Fault Refusal :=
  runAccess s (.mrrs reg t) (readResult s (readIn s .mrrs reg))

/-- The step of `MRC` of an AArch32 register (R77, R108, R109); an `MRC` whose condition fails reads nothing (log 23). -/
def runMrc (reg : SysReg) (cond t : BitVec 4) (s : State) : Host.Outcome State Fault Refusal :=
  runAccess s (.mrc reg cond t)
    (if condHolds s cond then readResult s (readIn s .mrc reg) else finish s)

end Sys2Proof.Machine
end

