-- ==== Sys2Proof/Machine/ReadsA32.lean ====
section
/-! DEFINITION. The `MRC` reads of the two AArch32 registers (R108, R109). Each is the step of a read (R77) of its own register. -/

namespace Sys2Proof.Machine

/-- `MRC p15, 0, <Rt>, c13, c0, 2`, the `MRC` read of TPIDRURW, governed by the field TPIDR_EL0 (R108). -/
def execMrcTpidrurw (cond t : BitVec 4) (s : State) : Host.Outcome State Fault Refusal :=
  runMrc .tpidrurw cond t s

/-- `MRC p15, 0, <Rt>, c13, c0, 3`, the `MRC` read of TPIDRURO, governed by the field TPIDRRO_EL0 (R109). -/
def execMrcTpidruro (cond t : BitVec 4) (s : State) : Host.Outcome State Fault Refusal :=
  runMrc .tpidruro cond t s

end Sys2Proof.Machine
end

