-- ==== Sys2Proof/Machine/ReadsHigh.lean ====
section
/-! DEFINITION. The `MRS` reads governed by the fields of bits 63 to 50 (spec file 40). Each is the step of a read (R77) of its own register. -/

namespace Sys2Proof.Machine

/-- `MRS <Xt>, AMAIR2_EL1`, governed by the field nAMAIR2_EL1 (R80). -/
def execMrsAmair2El1 (t : BitVec 5) (s : State) : Host.Outcome State Fault Refusal :=
  runMrs .amair2El1 t s

/-- `MRS <Xt>, MAIR2_EL1`, governed by the field nMAIR2_EL1 (R81). -/
def execMrsMair2El1 (t : BitVec 5) (s : State) : Host.Outcome State Fault Refusal :=
  runMrs .mair2El1 t s

/-- `MRS <Xt>, S2POR_EL1`, governed by the field nS2POR_EL1 (R82). -/
def execMrsS2porEl1 (t : BitVec 5) (s : State) : Host.Outcome State Fault Refusal :=
  runMrs .s2porEl1 t s

/-- `MRS <Xt>, POR_EL1`, governed by the field nPOR_EL1 (R83). -/
def execMrsPorEl1 (t : BitVec 5) (s : State) : Host.Outcome State Fault Refusal :=
  runMrs .porEl1 t s

/-- `MRS <Xt>, POR_EL0`, governed by the field nPOR_EL0 (R84). -/
def execMrsPorEl0 (t : BitVec 5) (s : State) : Host.Outcome State Fault Refusal :=
  runMrs .porEl0 t s

/-- `MRS <Xt>, PIR_EL1`, governed by the field nPIR_EL1 (R85). -/
def execMrsPirEl1 (t : BitVec 5) (s : State) : Host.Outcome State Fault Refusal :=
  runMrs .pirEl1 t s

/-- `MRS <Xt>, PIRE0_EL1`, governed by the field nPIRE0_EL1 (R86). -/
def execMrsPire0El1 (t : BitVec 5) (s : State) : Host.Outcome State Fault Refusal :=
  runMrs .pire0El1 t s

/-- `MRS <Xt>, RCWMASK_EL1`, governed by the field nRCWMASK_EL1 (R87). -/
def execMrsRcwmaskEl1 (t : BitVec 5) (s : State) : Host.Outcome State Fault Refusal :=
  runMrs .rcwmaskEl1 t s

/-- `MRS <Xt>, TPIDR2_EL0`, governed by the field nTPIDR2_EL0 (R88). -/
def execMrsTpidr2El0 (t : BitVec 5) (s : State) : Host.Outcome State Fault Refusal :=
  runMrs .tpidr2El0 t s

/-- `MRS <Xt>, SMPRI_EL1`, governed by the field nSMPRI_EL1 (R89). -/
def execMrsSmpriEl1 (t : BitVec 5) (s : State) : Host.Outcome State Fault Refusal :=
  runMrs .smpriEl1 t s

/-- `MRS <Xt>, GCSCR_EL1`, governed by the field nGCS_EL1 (R90). -/
def execMrsGcscrEl1 (t : BitVec 5) (s : State) : Host.Outcome State Fault Refusal :=
  runMrs .gcscrEl1 t s

/-- `MRS <Xt>, GCSPR_EL1`, governed by the field nGCS_EL1 (R90). -/
def execMrsGcsprEl1 (t : BitVec 5) (s : State) : Host.Outcome State Fault Refusal :=
  runMrs .gcsprEl1 t s

/-- `MRS <Xt>, GCSCRE0_EL1`, governed by the field nGCS_EL0 (R91). -/
def execMrsGcscre0El1 (t : BitVec 5) (s : State) : Host.Outcome State Fault Refusal :=
  runMrs .gcscre0El1 t s

/-- `MRS <Xt>, GCSPR_EL0`, governed by the field nGCS_EL0 (R91). -/
def execMrsGcsprEl0 (t : BitVec 5) (s : State) : Host.Outcome State Fault Refusal :=
  runMrs .gcsprEl0 t s

/-- `MRS <Xt>, ACCDATA_EL1`, governed by the field nACCDATA_EL1 (R93). -/
def execMrsAccdataEl1 (t : BitVec 5) (s : State) : Host.Outcome State Fault Refusal :=
  runMrs .accdataEl1 t s

end Sys2Proof.Machine
end

