-- ==== Sys2Proof/Machine/ReadsLow.lean ====
section
/-! DEFINITION. The `MRS` reads governed by the fields of bits 31 to 0 (spec file 42). Each is the step of a read (R77) of its own register. -/

namespace Sys2Proof.Machine

/-- `MRS <Xt>, SCXTNUM_EL0`, governed by the field SCXTNUM_EL0 (R112). -/
def execMrsScxtnumEl0 (t : BitVec 5) (s : State) : Host.Outcome State Fault Refusal :=
  runMrs .scxtnumEl0 t s

/-- `MRS <Xt>, SCXTNUM_EL1`, governed by the field SCXTNUM_EL1 (R113). -/
def execMrsScxtnumEl1 (t : BitVec 5) (s : State) : Host.Outcome State Fault Refusal :=
  runMrs .scxtnumEl1 t s

/-- `MRS <Xt>, SCTLR_EL1`, governed by the field SCTLR_EL1 (R114). -/
def execMrsSctlrEl1 (t : BitVec 5) (s : State) : Host.Outcome State Fault Refusal :=
  runMrs .sctlrEl1 t s

/-- `MRS <Xt>, SCTLR2_EL1`, governed by the field SCTLR_EL1 (R114). -/
def execMrsSctlr2El1 (t : BitVec 5) (s : State) : Host.Outcome State Fault Refusal :=
  runMrs .sctlr2El1 t s

/-- `MRS <Xt>, REVIDR_EL1`, governed by the field REVIDR_EL1 (R115). -/
def execMrsRevidrEl1 (t : BitVec 5) (s : State) : Host.Outcome State Fault Refusal :=
  runMrs .revidrEl1 t s

/-- `MRS <Xt>, PAR_EL1`, governed by the field PAR_EL1 (R116). -/
def execMrsParEl1 (t : BitVec 5) (s : State) : Host.Outcome State Fault Refusal :=
  runMrs .parEl1 t s

/-- `MRS <Xt>, MPIDR_EL1`, governed by the field MPIDR_EL1 (R117). -/
def execMrsMpidrEl1 (t : BitVec 5) (s : State) : Host.Outcome State Fault Refusal :=
  runMrs .mpidrEl1 t s

/-- `MRS <Xt>, MIDR_EL1`, governed by the field MIDR_EL1 (R118). -/
def execMrsMidrEl1 (t : BitVec 5) (s : State) : Host.Outcome State Fault Refusal :=
  runMrs .midrEl1 t s

/-- `MRS <Xt>, MAIR_EL1`, governed by the field MAIR_EL1 (R119). -/
def execMrsMairEl1 (t : BitVec 5) (s : State) : Host.Outcome State Fault Refusal :=
  runMrs .mairEl1 t s

/-- `MRS <Xt>, LORSA_EL1`, governed by the field LORSA_EL1 (R120). -/
def execMrsLorsaEl1 (t : BitVec 5) (s : State) : Host.Outcome State Fault Refusal :=
  runMrs .lorsaEl1 t s

/-- `MRS <Xt>, LORN_EL1`, governed by the field LORN_EL1 (R121). -/
def execMrsLornEl1 (t : BitVec 5) (s : State) : Host.Outcome State Fault Refusal :=
  runMrs .lornEl1 t s

/-- `MRS <Xt>, LORID_EL1`, governed by the field LORID_EL1 (R122). -/
def execMrsLoridEl1 (t : BitVec 5) (s : State) : Host.Outcome State Fault Refusal :=
  runMrs .loridEl1 t s

/-- `MRS <Xt>, LOREA_EL1`, governed by the field LOREA_EL1 (R123). -/
def execMrsLoreaEl1 (t : BitVec 5) (s : State) : Host.Outcome State Fault Refusal :=
  runMrs .loreaEl1 t s

/-- `MRS <Xt>, LORC_EL1`, governed by the field LORC_EL1 (R124). -/
def execMrsLorcEl1 (t : BitVec 5) (s : State) : Host.Outcome State Fault Refusal :=
  runMrs .lorcEl1 t s

/-- `MRS <Xt>, ISR_EL1`, governed by the field ISR_EL1 (R125). -/
def execMrsIsrEl1 (t : BitVec 5) (s : State) : Host.Outcome State Fault Refusal :=
  runMrs .isrEl1 t s

/-- `MRS <Xt>, FAR_EL1`, governed by the field FAR_EL1 (R126). -/
def execMrsFarEl1 (t : BitVec 5) (s : State) : Host.Outcome State Fault Refusal :=
  runMrs .farEl1 t s

/-- `MRS <Xt>, ESR_EL1`, governed by the field ESR_EL1 (R127). -/
def execMrsEsrEl1 (t : BitVec 5) (s : State) : Host.Outcome State Fault Refusal :=
  runMrs .esrEl1 t s

/-- `MRS <Xt>, DCZID_EL0`, governed by the field DCZID_EL0 (R128). -/
def execMrsDczidEl0 (t : BitVec 5) (s : State) : Host.Outcome State Fault Refusal :=
  runMrs .dczidEl0 t s

/-- `MRS <Xt>, CTR_EL0`, governed by the field CTR_EL0 (R129). -/
def execMrsCtrEl0 (t : BitVec 5) (s : State) : Host.Outcome State Fault Refusal :=
  runMrs .ctrEl0 t s

/-- `MRS <Xt>, CSSELR_EL1`, governed by the field CSSELR_EL1 (R130). -/
def execMrsCsselrEl1 (t : BitVec 5) (s : State) : Host.Outcome State Fault Refusal :=
  runMrs .csselrEl1 t s

/-- `MRS <Xt>, CPACR_EL1`, governed by the field CPACR_EL1 (R131). -/
def execMrsCpacrEl1 (t : BitVec 5) (s : State) : Host.Outcome State Fault Refusal :=
  runMrs .cpacrEl1 t s

/-- `MRS <Xt>, CONTEXTIDR_EL1`, governed by the field CONTEXTIDR_EL1 (R132). -/
def execMrsContextidrEl1 (t : BitVec 5) (s : State) : Host.Outcome State Fault Refusal :=
  runMrs .contextidrEl1 t s

/-- `MRS <Xt>, CLIDR_EL1`, governed by the field CLIDR_EL1 (R133). -/
def execMrsClidrEl1 (t : BitVec 5) (s : State) : Host.Outcome State Fault Refusal :=
  runMrs .clidrEl1 t s

/-- `MRS <Xt>, CCSIDR_EL1`, governed by the field CCSIDR_EL1 (R134). -/
def execMrsCcsidrEl1 (t : BitVec 5) (s : State) : Host.Outcome State Fault Refusal :=
  runMrs .ccsidrEl1 t s

/-- `MRS <Xt>, APIBKeyHi_EL1`, governed by the field APIBKey (R135). -/
def execMrsApibKeyHiEl1 (t : BitVec 5) (s : State) : Host.Outcome State Fault Refusal :=
  runMrs .apibKeyHiEl1 t s

/-- `MRS <Xt>, APIBKeyLo_EL1`, governed by the field APIBKey (R135). -/
def execMrsApibKeyLoEl1 (t : BitVec 5) (s : State) : Host.Outcome State Fault Refusal :=
  runMrs .apibKeyLoEl1 t s

/-- `MRS <Xt>, APIAKeyHi_EL1`, governed by the field APIAKey (R136). -/
def execMrsApiaKeyHiEl1 (t : BitVec 5) (s : State) : Host.Outcome State Fault Refusal :=
  runMrs .apiaKeyHiEl1 t s

/-- `MRS <Xt>, APIAKeyLo_EL1`, governed by the field APIAKey (R136). -/
def execMrsApiaKeyLoEl1 (t : BitVec 5) (s : State) : Host.Outcome State Fault Refusal :=
  runMrs .apiaKeyLoEl1 t s

/-- `MRS <Xt>, APGAKeyHi_EL1`, governed by the field APGAKey (R137). -/
def execMrsApgaKeyHiEl1 (t : BitVec 5) (s : State) : Host.Outcome State Fault Refusal :=
  runMrs .apgaKeyHiEl1 t s

/-- `MRS <Xt>, APGAKeyLo_EL1`, governed by the field APGAKey (R137). -/
def execMrsApgaKeyLoEl1 (t : BitVec 5) (s : State) : Host.Outcome State Fault Refusal :=
  runMrs .apgaKeyLoEl1 t s

/-- `MRS <Xt>, APDBKeyHi_EL1`, governed by the field APDBKey (R138). -/
def execMrsApdbKeyHiEl1 (t : BitVec 5) (s : State) : Host.Outcome State Fault Refusal :=
  runMrs .apdbKeyHiEl1 t s

/-- `MRS <Xt>, APDBKeyLo_EL1`, governed by the field APDBKey (R138). -/
def execMrsApdbKeyLoEl1 (t : BitVec 5) (s : State) : Host.Outcome State Fault Refusal :=
  runMrs .apdbKeyLoEl1 t s

/-- `MRS <Xt>, APDAKeyHi_EL1`, governed by the field APDAKey (R139). -/
def execMrsApdaKeyHiEl1 (t : BitVec 5) (s : State) : Host.Outcome State Fault Refusal :=
  runMrs .apdaKeyHiEl1 t s

/-- `MRS <Xt>, APDAKeyLo_EL1`, governed by the field APDAKey (R139). -/
def execMrsApdaKeyLoEl1 (t : BitVec 5) (s : State) : Host.Outcome State Fault Refusal :=
  runMrs .apdaKeyLoEl1 t s

/-- `MRS <Xt>, AMAIR_EL1`, governed by the field AMAIR_EL1 (R140). -/
def execMrsAmairEl1 (t : BitVec 5) (s : State) : Host.Outcome State Fault Refusal :=
  runMrs .amairEl1 t s

/-- `MRS <Xt>, AIDR_EL1`, governed by the field AIDR_EL1 (R141). -/
def execMrsAidrEl1 (t : BitVec 5) (s : State) : Host.Outcome State Fault Refusal :=
  runMrs .aidrEl1 t s

/-- `MRS <Xt>, AFSR1_EL1`, governed by the field AFSR1_EL1 (R142). -/
def execMrsAfsr1El1 (t : BitVec 5) (s : State) : Host.Outcome State Fault Refusal :=
  runMrs .afsr1El1 t s

/-- `MRS <Xt>, AFSR0_EL1`, governed by the field AFSR0_EL1 (R143). -/
def execMrsAfsr0El1 (t : BitVec 5) (s : State) : Host.Outcome State Fault Refusal :=
  runMrs .afsr0El1 t s

end Sys2Proof.Machine
end

