-- ==== Sys2Proof/Machine/ReadsMiddle.lean ====
section
/-! DEFINITION. The `MRS` reads governed by the fields of bits 49 to 32 (spec file 41). Each is the step of a read (R77) of its own register. -/

namespace Sys2Proof.Machine

/-- `MRS <Xt>, ERXADDR_EL1`, governed by the field ERXADDR_EL1 (R94). -/
def execMrsErxaddrEl1 (t : BitVec 5) (s : State) : Host.Outcome State Fault Refusal :=
  runMrs .erxaddrEl1 t s

/-- `MRS <Xt>, ERXPFGCDN_EL1`, governed by the field ERXPFGCDN_EL1 (R95). -/
def execMrsErxpfgcdnEl1 (t : BitVec 5) (s : State) : Host.Outcome State Fault Refusal :=
  runMrs .erxpfgcdnEl1 t s

/-- `MRS <Xt>, ERXPFGCTL_EL1`, governed by the field ERXPFGCTL_EL1 (R96). -/
def execMrsErxpfgctlEl1 (t : BitVec 5) (s : State) : Host.Outcome State Fault Refusal :=
  runMrs .erxpfgctlEl1 t s

/-- `MRS <Xt>, ERXPFGF_EL1`, governed by the field ERXPFGF_EL1 (R97). -/
def execMrsErxpfgfEl1 (t : BitVec 5) (s : State) : Host.Outcome State Fault Refusal :=
  runMrs .erxpfgfEl1 t s

/-- `MRS <Xt>, ERXMISC0_EL1`, governed by the field ERXMISCn_EL1 (R98). -/
def execMrsErxmisc0El1 (t : BitVec 5) (s : State) : Host.Outcome State Fault Refusal :=
  runMrs .erxmisc0El1 t s

/-- `MRS <Xt>, ERXMISC1_EL1`, governed by the field ERXMISCn_EL1 (R98). -/
def execMrsErxmisc1El1 (t : BitVec 5) (s : State) : Host.Outcome State Fault Refusal :=
  runMrs .erxmisc1El1 t s

/-- `MRS <Xt>, ERXMISC2_EL1`, governed by the field ERXMISCn_EL1 (R98). -/
def execMrsErxmisc2El1 (t : BitVec 5) (s : State) : Host.Outcome State Fault Refusal :=
  runMrs .erxmisc2El1 t s

/-- `MRS <Xt>, ERXMISC3_EL1`, governed by the field ERXMISCn_EL1 (R98). -/
def execMrsErxmisc3El1 (t : BitVec 5) (s : State) : Host.Outcome State Fault Refusal :=
  runMrs .erxmisc3El1 t s

/-- `MRS <Xt>, ERXSTATUS_EL1`, governed by the field ERXSTATUS_EL1 (R99). -/
def execMrsErxstatusEl1 (t : BitVec 5) (s : State) : Host.Outcome State Fault Refusal :=
  runMrs .erxstatusEl1 t s

/-- `MRS <Xt>, ERXCTLR_EL1`, governed by the field ERXCTLR_EL1 (R100). -/
def execMrsErxctlrEl1 (t : BitVec 5) (s : State) : Host.Outcome State Fault Refusal :=
  runMrs .erxctlrEl1 t s

/-- `MRS <Xt>, ERXFR_EL1`, governed by the field ERXFR_EL1 (R101). -/
def execMrsErxfrEl1 (t : BitVec 5) (s : State) : Host.Outcome State Fault Refusal :=
  runMrs .erxfrEl1 t s

/-- `MRS <Xt>, ERRSELR_EL1`, governed by the field ERRSELR_EL1 (R102). -/
def execMrsErrselrEl1 (t : BitVec 5) (s : State) : Host.Outcome State Fault Refusal :=
  runMrs .errselrEl1 t s

/-- `MRS <Xt>, ERRIDR_EL1`, governed by the field ERRIDR_EL1 (R103). -/
def execMrsErridrEl1 (t : BitVec 5) (s : State) : Host.Outcome State Fault Refusal :=
  runMrs .erridrEl1 t s

/-- `MRS <Xt>, ICC_IGRPEN0_EL1`, governed by the field ICC_IGRPENn_EL1 (R104). -/
def execMrsIccIgrpen0El1 (t : BitVec 5) (s : State) : Host.Outcome State Fault Refusal :=
  runMrs .iccIgrpen0El1 t s

/-- `MRS <Xt>, ICC_IGRPEN1_EL1`, governed by the field ICC_IGRPENn_EL1 (R104). -/
def execMrsIccIgrpen1El1 (t : BitVec 5) (s : State) : Host.Outcome State Fault Refusal :=
  runMrs .iccIgrpen1El1 t s

/-- `MRS <Xt>, VBAR_EL1`, governed by the field VBAR_EL1 (R105). -/
def execMrsVbarEl1 (t : BitVec 5) (s : State) : Host.Outcome State Fault Refusal :=
  runMrs .vbarEl1 t s

/-- `MRS <Xt>, TTBR1_EL1`, governed by the field TTBR1_EL1 (R106). -/
def execMrsTtbr1El1 (t : BitVec 5) (s : State) : Host.Outcome State Fault Refusal :=
  runMrs .ttbr1El1 t s

/-- `MRS <Xt>, TTBR0_EL1`, governed by the field TTBR0_EL1 (R107). -/
def execMrsTtbr0El1 (t : BitVec 5) (s : State) : Host.Outcome State Fault Refusal :=
  runMrs .ttbr0El1 t s

/-- `MRS <Xt>, TPIDR_EL0`, governed by the field TPIDR_EL0 (R108). -/
def execMrsTpidrEl0 (t : BitVec 5) (s : State) : Host.Outcome State Fault Refusal :=
  runMrs .tpidrEl0 t s

/-- `MRS <Xt>, TPIDRRO_EL0`, governed by the field TPIDRRO_EL0 (R109). -/
def execMrsTpidrroEl0 (t : BitVec 5) (s : State) : Host.Outcome State Fault Refusal :=
  runMrs .tpidrroEl0 t s

/-- `MRS <Xt>, TPIDR_EL1`, governed by the field TPIDR_EL1 (R110). -/
def execMrsTpidrEl1 (t : BitVec 5) (s : State) : Host.Outcome State Fault Refusal :=
  runMrs .tpidrEl1 t s

/-- `MRS <Xt>, TCR_EL1`, governed by the field TCR_EL1 (R111). -/
def execMrsTcrEl1 (t : BitVec 5) (s : State) : Host.Outcome State Fault Refusal :=
  runMrs .tcrEl1 t s

/-- `MRS <Xt>, TCR2_EL1`, governed by the field TCR_EL1 (R111). -/
def execMrsTcr2El1 (t : BitVec 5) (s : State) : Host.Outcome State Fault Refusal :=
  runMrs .tcr2El1 t s

end Sys2Proof.Machine
end

