-- ==== Sys2Proof/Machine/ReadsPair.lean ====
section
/-! DEFINITION. The `MRRS` reads of the four registers whose entries name `MRRS` (R87, R106, R107, R116). Each is the step of a read (R77) of its own register. -/

namespace Sys2Proof.Machine

/-- `MRRS <Xt>, <Xt+1>, RCWMASK_EL1`, governed by the field nRCWMASK_EL1 (R87). -/
def execMrrsRcwmaskEl1 (t : BitVec 5) (s : State) : Host.Outcome State Fault Refusal :=
  runMrrs .rcwmaskEl1 t s

/-- `MRRS <Xt>, <Xt+1>, TTBR1_EL1`, governed by the field TTBR1_EL1 (R106). -/
def execMrrsTtbr1El1 (t : BitVec 5) (s : State) : Host.Outcome State Fault Refusal :=
  runMrrs .ttbr1El1 t s

/-- `MRRS <Xt>, <Xt+1>, TTBR0_EL1`, governed by the field TTBR0_EL1 (R107). -/
def execMrrsTtbr0El1 (t : BitVec 5) (s : State) : Host.Outcome State Fault Refusal :=
  runMrrs .ttbr0El1 t s

/-- `MRRS <Xt>, <Xt+1>, PAR_EL1`, governed by the field PAR_EL1 (R116). -/
def execMrrsParEl1 (t : BitVec 5) (s : State) : Host.Outcome State Fault Refusal :=
  runMrrs .parEl1 t s

end Sys2Proof.Machine
end

