-- ==== Sys2Proof/Machine/Dispatch.lean ====
section
/-! DEFINITION. One arm per instruction. -/

namespace Sys2Proof.Machine

def exec (i : Instr) (s : State) : Host.Outcome State Fault Refusal :=
  match i with
  | .mrsHfgrtrEl2 t => Sys2Proof.Machine.execMrsHfgrtrEl2 t s
  | .msrHfgrtrEl2 t => Sys2Proof.Machine.execMsrHfgrtrEl2 t s
  | .mrsAmair2El1 t => Sys2Proof.Machine.execMrsAmair2El1 t s
  | .mrsMair2El1 t => Sys2Proof.Machine.execMrsMair2El1 t s
  | .mrsS2porEl1 t => Sys2Proof.Machine.execMrsS2porEl1 t s
  | .mrsPorEl1 t => Sys2Proof.Machine.execMrsPorEl1 t s
  | .mrsPorEl0 t => Sys2Proof.Machine.execMrsPorEl0 t s
  | .mrsPirEl1 t => Sys2Proof.Machine.execMrsPirEl1 t s
  | .mrsPire0El1 t => Sys2Proof.Machine.execMrsPire0El1 t s
  | .mrsRcwmaskEl1 t => Sys2Proof.Machine.execMrsRcwmaskEl1 t s
  | .mrsTpidr2El0 t => Sys2Proof.Machine.execMrsTpidr2El0 t s
  | .mrsSmpriEl1 t => Sys2Proof.Machine.execMrsSmpriEl1 t s
  | .mrsGcscrEl1 t => Sys2Proof.Machine.execMrsGcscrEl1 t s
  | .mrsGcsprEl1 t => Sys2Proof.Machine.execMrsGcsprEl1 t s
  | .mrsGcscre0El1 t => Sys2Proof.Machine.execMrsGcscre0El1 t s
  | .mrsGcsprEl0 t => Sys2Proof.Machine.execMrsGcsprEl0 t s
  | .mrsAccdataEl1 t => Sys2Proof.Machine.execMrsAccdataEl1 t s
  | .mrsErxaddrEl1 t => Sys2Proof.Machine.execMrsErxaddrEl1 t s
  | .mrsErxpfgcdnEl1 t => Sys2Proof.Machine.execMrsErxpfgcdnEl1 t s
  | .mrsErxpfgctlEl1 t => Sys2Proof.Machine.execMrsErxpfgctlEl1 t s
  | .mrsErxpfgfEl1 t => Sys2Proof.Machine.execMrsErxpfgfEl1 t s
  | .mrsErxmisc0El1 t => Sys2Proof.Machine.execMrsErxmisc0El1 t s
  | .mrsErxmisc1El1 t => Sys2Proof.Machine.execMrsErxmisc1El1 t s
  | .mrsErxmisc2El1 t => Sys2Proof.Machine.execMrsErxmisc2El1 t s
  | .mrsErxmisc3El1 t => Sys2Proof.Machine.execMrsErxmisc3El1 t s
  | .mrsErxstatusEl1 t => Sys2Proof.Machine.execMrsErxstatusEl1 t s
  | .mrsErxctlrEl1 t => Sys2Proof.Machine.execMrsErxctlrEl1 t s
  | .mrsErxfrEl1 t => Sys2Proof.Machine.execMrsErxfrEl1 t s
  | .mrsErrselrEl1 t => Sys2Proof.Machine.execMrsErrselrEl1 t s
  | .mrsErridrEl1 t => Sys2Proof.Machine.execMrsErridrEl1 t s
  | .mrsIccIgrpen0El1 t => Sys2Proof.Machine.execMrsIccIgrpen0El1 t s
  | .mrsIccIgrpen1El1 t => Sys2Proof.Machine.execMrsIccIgrpen1El1 t s
  | .mrsVbarEl1 t => Sys2Proof.Machine.execMrsVbarEl1 t s
  | .mrsTtbr1El1 t => Sys2Proof.Machine.execMrsTtbr1El1 t s
  | .mrsTtbr0El1 t => Sys2Proof.Machine.execMrsTtbr0El1 t s
  | .mrsTpidrEl0 t => Sys2Proof.Machine.execMrsTpidrEl0 t s
  | .mrsTpidrroEl0 t => Sys2Proof.Machine.execMrsTpidrroEl0 t s
  | .mrsTpidrEl1 t => Sys2Proof.Machine.execMrsTpidrEl1 t s
  | .mrsTcrEl1 t => Sys2Proof.Machine.execMrsTcrEl1 t s
  | .mrsTcr2El1 t => Sys2Proof.Machine.execMrsTcr2El1 t s
  | .mrsScxtnumEl0 t => Sys2Proof.Machine.execMrsScxtnumEl0 t s
  | .mrsScxtnumEl1 t => Sys2Proof.Machine.execMrsScxtnumEl1 t s
  | .mrsSctlrEl1 t => Sys2Proof.Machine.execMrsSctlrEl1 t s
  | .mrsSctlr2El1 t => Sys2Proof.Machine.execMrsSctlr2El1 t s
  | .mrsRevidrEl1 t => Sys2Proof.Machine.execMrsRevidrEl1 t s
  | .mrsParEl1 t => Sys2Proof.Machine.execMrsParEl1 t s
  | .mrsMpidrEl1 t => Sys2Proof.Machine.execMrsMpidrEl1 t s
  | .mrsMidrEl1 t => Sys2Proof.Machine.execMrsMidrEl1 t s
  | .mrsMairEl1 t => Sys2Proof.Machine.execMrsMairEl1 t s
  | .mrsLorsaEl1 t => Sys2Proof.Machine.execMrsLorsaEl1 t s
  | .mrsLornEl1 t => Sys2Proof.Machine.execMrsLornEl1 t s
  | .mrsLoridEl1 t => Sys2Proof.Machine.execMrsLoridEl1 t s
  | .mrsLoreaEl1 t => Sys2Proof.Machine.execMrsLoreaEl1 t s
  | .mrsLorcEl1 t => Sys2Proof.Machine.execMrsLorcEl1 t s
  | .mrsIsrEl1 t => Sys2Proof.Machine.execMrsIsrEl1 t s
  | .mrsFarEl1 t => Sys2Proof.Machine.execMrsFarEl1 t s
  | .mrsEsrEl1 t => Sys2Proof.Machine.execMrsEsrEl1 t s
  | .mrsDczidEl0 t => Sys2Proof.Machine.execMrsDczidEl0 t s
  | .mrsCtrEl0 t => Sys2Proof.Machine.execMrsCtrEl0 t s
  | .mrsCsselrEl1 t => Sys2Proof.Machine.execMrsCsselrEl1 t s
  | .mrsCpacrEl1 t => Sys2Proof.Machine.execMrsCpacrEl1 t s
  | .mrsContextidrEl1 t => Sys2Proof.Machine.execMrsContextidrEl1 t s
  | .mrsClidrEl1 t => Sys2Proof.Machine.execMrsClidrEl1 t s
  | .mrsCcsidrEl1 t => Sys2Proof.Machine.execMrsCcsidrEl1 t s
  | .mrsApibKeyHiEl1 t => Sys2Proof.Machine.execMrsApibKeyHiEl1 t s
  | .mrsApibKeyLoEl1 t => Sys2Proof.Machine.execMrsApibKeyLoEl1 t s
  | .mrsApiaKeyHiEl1 t => Sys2Proof.Machine.execMrsApiaKeyHiEl1 t s
  | .mrsApiaKeyLoEl1 t => Sys2Proof.Machine.execMrsApiaKeyLoEl1 t s
  | .mrsApgaKeyHiEl1 t => Sys2Proof.Machine.execMrsApgaKeyHiEl1 t s
  | .mrsApgaKeyLoEl1 t => Sys2Proof.Machine.execMrsApgaKeyLoEl1 t s
  | .mrsApdbKeyHiEl1 t => Sys2Proof.Machine.execMrsApdbKeyHiEl1 t s
  | .mrsApdbKeyLoEl1 t => Sys2Proof.Machine.execMrsApdbKeyLoEl1 t s
  | .mrsApdaKeyHiEl1 t => Sys2Proof.Machine.execMrsApdaKeyHiEl1 t s
  | .mrsApdaKeyLoEl1 t => Sys2Proof.Machine.execMrsApdaKeyLoEl1 t s
  | .mrsAmairEl1 t => Sys2Proof.Machine.execMrsAmairEl1 t s
  | .mrsAidrEl1 t => Sys2Proof.Machine.execMrsAidrEl1 t s
  | .mrsAfsr1El1 t => Sys2Proof.Machine.execMrsAfsr1El1 t s
  | .mrsAfsr0El1 t => Sys2Proof.Machine.execMrsAfsr0El1 t s
  | .mrrsRcwmaskEl1 t => Sys2Proof.Machine.execMrrsRcwmaskEl1 t s
  | .mrrsTtbr1El1 t => Sys2Proof.Machine.execMrrsTtbr1El1 t s
  | .mrrsTtbr0El1 t => Sys2Proof.Machine.execMrrsTtbr0El1 t s
  | .mrrsParEl1 t => Sys2Proof.Machine.execMrrsParEl1 t s
  | .mrcTpidrurw cond t => Sys2Proof.Machine.execMrcTpidrurw cond t s
  | .mrcTpidruro cond t => Sys2Proof.Machine.execMrcTpidruro cond t s

end Sys2Proof.Machine
end

