-- ==== Sys2Proof/Machine/Fetch.lean ====
section
/-! DEFINITION. Fetching an instruction's bytes from the program text, and placing them there. -/

namespace Sys2Proof.Machine

/-- The pc is aligned: to 4 bytes in A64 and A32 (R28), to 2 in T32, whose halfwords R60 names. -/
def pcAligned (s : State) : Bool :=
  match s.pstate.iset with
  | .a64 => s.pc.extractLsb' 0 2 == 0#2
  | .a32 => s.pc.extractLsb' 0 2 == 0#2
  | .t32 => s.pc.extractLsb' 0 1 == 0#1

/-- Bytes of the program text at increasing addresses; none past its end (R55, R199). -/
def textBytes (text : List Host.Cell) (a : Nat) : Nat → Option (List Byte)
  | 0 => some []
  | n + 1 =>
    match lookupCell a text, textBytes text (a + 1) n with
    | some b, some bs => some (b :: bs)
    | _, _ => none

/-- The four bytes of the instruction at the pc: every instruction is 32 bits (R58, R60). -/
def fetchBytes (s : State) : Option (List Byte) := textBytes s.text s.pc.toNat 4

/-- The instruction at the pc, or why there is none: a pc off alignment (R28), the end of the program text (R199), bytes
of no row of the table (R68). -/
def nextInstr (s : State) : Except Refusal Instr :=
  if pcAligned s then
    match fetchBytes s with
    | none => .error .endOfText
    | some bytes =>
      match decode s.pstate.iset bytes with
      | .error e => .error (.undecoded e)
      | .ok (i, _) => .ok i
  else .error .misalignedPc

/-- Place bytes in the program text at increasing addresses. -/
def placeBytes (text : List Host.Cell) (a : Nat) : List Byte → List Host.Cell
  | [] => text
  | b :: bs => placeBytes (insertCell a b text) (a + 1) bs

/-- A row's word placed at the pc, little-endian, the instruction set being the one that has the word, and nothing of
the rest of the machine coming before it. -/
def placeWord (s : State) (w : InstrWord) : State :=
  { s with
    text := placeBytes s.text s.pc.toNat (leBytes w)
    pstate := { s.pstate with iset := tableWordISet w }
    rest := [] }

end Sys2Proof.Machine
end

