-- ==== Sys2Proof/Machine/Rest.lean ====
section
/-! DEFINITION. What the rest of the machine does between two instructions of this hardware (log 24). -/

namespace Sys2Proof.Machine

/-- A change of level by the rest of the machine: it sets the level, the instruction set and the pc, and clears
`pending` (R33, R193). A level that is absent is refused. -/
def levelChange (s : State) (el : EL) (iset : ISet) (pc : Word) : Host.Outcome State Fault Refusal :=
  if levelImplemented s.cfg el then
    .next { s with pstate := { s.pstate with el := el, iset := iset }, pc := pc, pending := none }
  else .refused .illFormedContext

/-- Reset: the register holds a drawn value, execution starts at the highest level (R187, R188); the spec gives
no value for the rest, which stays (log 14). -/
def resetEvent (s : State) (draw : Word) : State :=
  { s with hfgrtr := s.cfg.maskRES0 draw, pending := none, pstate := resetPState s.cfg, pc := s.cfg.resetPC }

/-- A change of context. One that would leave a state that is not well-formed, by its `NVBase` off alignment (R48) or
by the location over the program text (R55), is refused. -/
def setContext (s : State) (c : Context) : Host.Outcome State Fault Refusal :=
  if nvAligned { s with ctx := c } then
    (if nvOffText { s with ctx := c } then .next { s with ctx := c } else .refused .nvOverlapsText)
  else .refused .nvBaseMisaligned

/-- One input of the rest of the machine. -/
def applyRest (s : State) : RestEvent → Host.Outcome State Fault Refusal
  | .contextSync => .next (contextSync s)
  | .levelChange el iset pc => levelChange s el iset pc
  | .exceptionReturn =>
    match exceptionReturn s with
    | some s' => .next s'
    | none => .refused .illFormedContext
  | .setContext c => setContext s c
  | .writeX t v => .next (writeX s t v)
  | .writeExc t r => .next (setExcRegs s t r)
  | .writeMem a b => .next { s with mem := memWrite s.mem a.toNat b }
  | .reset draw => .next (resetEvent s draw)

end Sys2Proof.Machine
end

