-- ==== Sys2Proof/Machine/Step.lean ====
section
/-! DEFINITION. One step of the machine. -/

namespace Sys2Proof.Machine

/-- The step of an instruction: the one at the pc, or a refusal (R12, R199). -/
def instructionStep (s : State) : Host.Outcome State Fault Refusal :=
  match nextInstr s with
  | .error r => .refused r
  | .ok i => exec i s

/-- One step: the next turn, an input of the rest of the machine or an instruction; with no turn listed, an instruction
(R10, R12; log 24). -/
def step (s : State) : Host.Outcome State Fault Refusal :=
  match s.rest with
  | .input e :: es => applyRest { s with rest := es } e
  | .instruction :: es => instructionStep { s with rest := es }
  | [] => instructionStep s

/-- The state with a row's word stored where the next step fetches it. -/
def State.withFetchWord (s : State) (nbits w : Nat) : State := placeWord s (tableWord nbits w)

end Sys2Proof.Machine
end

