-- ==== Sys2Proof/Safety.lean ====
section
/-! DEFINITION. What counts as a safe run, the invariant of the machine, and the terms statements are written in. -/

namespace Sys2Proof

/-- The row of the table of R17 whose rule names a register: its bit, the field value that traps, and whether it
covers EL0. Written from that table, and not from the tables the machine uses. -/
def SysReg.ruleRow : SysReg → Nat × Bool × Bool
  | .amair2El1 => (63, false, false)
  | .mair2El1 => (62, false, false)
  | .s2porEl1 => (61, false, false)
  | .porEl1 => (60, false, false)
  | .porEl0 => (59, false, true)
  | .pirEl1 => (58, false, false)
  | .pire0El1 => (57, false, false)
  | .rcwmaskEl1 => (56, false, false)
  | .tpidr2El0 => (55, false, true)
  | .smpriEl1 => (54, false, false)
  | .gcscrEl1 => (53, false, false)
  | .gcsprEl1 => (53, false, false)
  | .gcscre0El1 => (52, false, true)
  | .gcsprEl0 => (52, false, true)
  | .accdataEl1 => (50, false, false)
  | .erxaddrEl1 => (49, true, false)
  | .erxpfgcdnEl1 => (48, true, false)
  | .erxpfgctlEl1 => (47, true, false)
  | .erxpfgfEl1 => (46, true, false)
  | .erxmisc0El1 => (45, true, false)
  | .erxmisc1El1 => (45, true, false)
  | .erxmisc2El1 => (45, true, false)
  | .erxmisc3El1 => (45, true, false)
  | .erxstatusEl1 => (44, true, false)
  | .erxctlrEl1 => (43, true, false)
  | .erxfrEl1 => (42, true, false)
  | .errselrEl1 => (41, true, false)
  | .erridrEl1 => (40, true, false)
  | .iccIgrpen0El1 => (39, true, false)
  | .iccIgrpen1El1 => (39, true, false)
  | .vbarEl1 => (38, true, false)
  | .ttbr1El1 => (37, true, false)
  | .ttbr0El1 => (36, true, false)
  | .tpidrEl0 => (35, true, true)
  | .tpidrroEl0 => (34, true, true)
  | .tpidrEl1 => (33, true, false)
  | .tcrEl1 => (32, true, false)
  | .tcr2El1 => (32, true, false)
  | .scxtnumEl0 => (31, true, true)
  | .scxtnumEl1 => (30, true, false)
  | .sctlrEl1 => (29, true, false)
  | .sctlr2El1 => (29, true, false)
  | .revidrEl1 => (28, true, false)
  | .parEl1 => (27, true, false)
  | .mpidrEl1 => (26, true, false)
  | .midrEl1 => (25, true, false)
  | .mairEl1 => (24, true, false)
  | .lorsaEl1 => (23, true, false)
  | .lornEl1 => (22, true, false)
  | .loridEl1 => (21, true, false)
  | .loreaEl1 => (20, true, false)
  | .lorcEl1 => (19, true, false)
  | .isrEl1 => (18, true, false)
  | .farEl1 => (17, true, false)
  | .esrEl1 => (16, true, false)
  | .dczidEl0 => (15, true, true)
  | .ctrEl0 => (14, true, true)
  | .csselrEl1 => (13, true, false)
  | .cpacrEl1 => (12, true, false)
  | .contextidrEl1 => (11, true, false)
  | .clidrEl1 => (10, true, false)
  | .ccsidrEl1 => (9, true, false)
  | .apibKeyHiEl1 => (8, true, false)
  | .apibKeyLoEl1 => (8, true, false)
  | .apiaKeyHiEl1 => (7, true, false)
  | .apiaKeyLoEl1 => (7, true, false)
  | .apgaKeyHiEl1 => (6, true, false)
  | .apgaKeyLoEl1 => (6, true, false)
  | .apdbKeyHiEl1 => (5, true, false)
  | .apdbKeyLoEl1 => (5, true, false)
  | .apdaKeyHiEl1 => (4, true, false)
  | .apdaKeyLoEl1 => (4, true, false)
  | .amairEl1 => (3, true, false)
  | .aidrEl1 => (2, true, false)
  | .afsr1El1 => (1, true, false)
  | .afsr0El1 => (0, true, false)
  | .tpidrurw => (35, true, true)
  | .tpidruro => (34, true, true)

end Sys2Proof

namespace Sys2Proof.Machine

/-- The next state of an outcome, if it has one. -/
def nextOf : Host.Outcome State Fault Refusal → Option State
  | .next s => some s
  | .fault _ => none
  | .refused _ => none

/-- An outcome is safe when it is no fault. -/
def isSafe : Host.Outcome State Fault Refusal → Bool
  | .next _ => true
  | .fault _ => false
  | .refused _ => true

/-- An outcome with its next state changed. -/
def mapNext (f : State → State) : Host.Outcome State Fault Refusal → Host.Outcome State Fault Refusal
  | .next s => .next (f s)
  | .fault r => .fault r
  | .refused r => .refused r

/-- The kind and the register of a read, none for an accessor of `HFGRTR_EL2` (R73). -/
def readOf (i : Instr) : Option (ReadKind × SysReg) :=
  match i.access with
  | .mrsH _ => none
  | .msrH _ => none
  | .mrs r _ => some (.mrs, r)
  | .mrrs r _ => some (.mrrs, r)
  | .mrc r _ _ => some (.mrc, r)

/-- The instruction's condition holds; only an `MRC` has one (R60, log 23). -/
def condOk (s : State) (i : Instr) : Bool :=
  match i.access with
  | .mrc _ cond _ => condHolds s cond
  | .mrsH _ => true
  | .msrH _ => true
  | .mrs _ _ => true
  | .mrrs _ _ => true

/-- Register `n` is a destination of the instruction (R27, R60). -/
def isDestination (i : Instr) (n : BitVec 5) : Bool :=
  match i.access with
  | .mrsH t => n == t
  | .msrH _ => false
  | .mrs _ t => n == t
  | .mrrs _ t => n == t || n == t + 1#5
  | .mrc _ _ t => t != 15#4 && n == t.setWidth 5

/-- `pc + 4` does not wrap (R28). -/
abbrev pcHasRoom (s : State) : Prop := s.pc.toNat + 4 < 2 ^ 64

/-- The state after an instruction whose own effect leaves `s`: the pc moves to the next instruction (R28). -/
def advance (s : State) : State := { s with pc := s.pc + 4#64 }

/-- EL3 is not implemented, or `SCR_EL3.FGTEn` is 1 (R74, R149). -/
abbrev gateOpen (s : State) : Prop := s.cfg.haveEL3 = false ∨ s.ctx.fgten = true

/-- An accessor reaches the register: at EL2 with the gate open, and at EL3 (rows M8, M9, M10 of R147). -/
abbrev reachesRegister (s : State) : Prop := (s.pstate.el = .el2 ∧ gateOpen s) ∨ s.pstate.el = .el3

/-- An accessor is redirected to memory: at EL1 with `EffNVx` matching `1x1` (row M2 of R147). -/
abbrev redirected (s : State) : Prop := s.pstate.el = .el1 ∧ nvMatches1x1 s = true

/-- The redirected access can be made: the location is off the program text and the memory oracle does not abort
(R50, R55). -/
abbrev nvMemReady (s : State) : Prop := nvOffText s ∧ s.ctx.nvAbort = false

/-- The configuration has the default tables of R17, R18 and R21: the bit positions, the register sets, no field
absent. -/
abbrev defaultTables (c : Config) : Prop := c.bitpos = defaultBitpos ∧ c.groupSets = defaultGroupSets ∧ c.absent = []

/-- The input of the rest of the machine that is next, if one is (log 24). -/
def inputNext (s : State) : Option RestEvent :=
  match s.rest with
  | .input e :: _ => some e
  | .instruction :: _ => none
  | [] => none

/-- The state once the next turn is taken from the list. -/
def afterTurn (s : State) : State := { s with rest := s.rest.tail }

/-- The instruction that the step runs, when no input comes first (R12). -/
def instrAt (s : State) : Option Instr :=
  match inputNext s, nextInstr s with
  | some _, _ => none
  | none, .error _ => none
  | none, .ok i => some i

/-- What an accessor does, but for the state a transfer leaves: `any` stands in its place. -/
def outcomeKind (any : State) : Result → Result
  | .next _ => .next any
  | .raise e => .raise e
  | .nvMemAbort => .nvMemAbort
  | .notThisHardware => .notThisHardware
  | .refuse r => .refuse r

/-- The register value at which no field traps, under the default bit positions (R19). -/
def NOTRAP : Word := 0xFFF4000000000000#64

/-- The register value at which every field traps, under the default bit positions (R19). -/
def ALLTRAP : Word := 0x0003FFFFFFFFFFFF#64

/-- The invariant of the machine: memory is in its canonical form and the program text in rising order; the current
level is implemented; a write is pending only at the levels that can write the register (R33, R193); hardwired RES0
bits are 0 (R20); `NVBase` is a multiple of 8 (R48) and the location disjoint from the program text (R55). -/
abbrev State.Inv (s : State) : Prop :=
  Memory.wf s.mem ∧ cellsRising s.text ∧ levelImplemented s.cfg s.pstate.el = true ∧
    (s.pending.isSome = true → s.pstate.el = .el2 ∨ s.pstate.el = .el3) ∧
    (s.cfg.res0Stored = false → s.hfgrtr &&& ~~~s.cfg.implMask = 0#64) ∧
    s.ctx.nvBase.toNat % 8 = 0 ∧ ∀ p ∈ s.text, outsideNVMem s p.1

end Sys2Proof.Machine
end

