-- ==== Sys2Proof/Certificates/Slice0/Obligations.lean ====
section
/-! DEFINITION. The statements for the provers. Each docstring names the rule it formalises; where a clause rests on a
choice of the model it names the log entry. -/

open Sys2Proof Sys2Proof.Machine

/-! ### Decoding and encoding -/

/-- Every well-formed instruction, with every value of its operands, is what the decoder reads from its own encoding,
and the bytes after it are left (R58 to R61; the encodings are general knowledge the spec supplies, log 22). -/
def Obligations.DecodeOfEncodeIsTheInstruction : Prop :=
  ∀ (i : Instr) (after : List Byte), i.wellFormed = true → decode i.iset (encode i ++ after) = .ok (i, after)

/-- Each word has one meaning: whatever the decoder accepts, in any instruction set, is a well-formed instruction whose
own encoding the bytes were, in T32 an `MRC` with condition `1110` (R58 to R61, R69; log 22). -/
def Obligations.DecodedBytesAreTheEncoding : Prop :=
  ∀ (m : ISet) (bytes after : List Byte) (i : Instr), decode m bytes = .ok (i, after) →
    i.wellFormed = true ∧
      (m = .a64 → i.iset = .a64 ∧ bytes = encode i ++ after) ∧
      (m = .a32 → i.iset = .a32 ∧ bytes = encode i ++ after) ∧
      (m = .t32 → i.iset = .a32 ∧ bytes = encodeT32 i ++ after ∧ (encodeWord i).extractLsb' 28 4 = 0b1110#4)

/-- In T32 an `MRC` whose condition is `1110` is what the decoder reads from its two halfwords (R60; log 22). -/
def Obligations.ThumbDecodeOfEncodeIsTheInstruction : Prop :=
  ∀ (t : BitVec 4) (i : Instr) (after : List Byte), i = .mrcTpidrurw 0b1110#4 t ∨ i = .mrcTpidruro 0b1110#4 t →
    decode .t32 (encodeT32 i ++ after) = .ok (i, after)

/-- The words of R59, R60 and R61, as the spec writes them, decode to the instructions they stand for. -/
def Obligations.WordsOfTheSpecDecode : Prop :=
  decodeTableWord 32 0xD53C1180 = some (.mrsHfgrtrEl2 0#5) ∧ decodeTableWord 32 0xD51C119F = some (.msrHfgrtrEl2 31#5) ∧
    decodeTableWord 32 0xD538C000 = some (.mrsVbarEl1 0#5) ∧ decodeTableWord 32 0xD53BD05E = some (.mrsTpidrEl0 30#5) ∧
    decodeTableWord 32 0xD5787402 = some (.mrrsParEl1 2#5) ∧
    decodeTableWord 32 0xEE1D5F70 = some (.mrcTpidruro 0b1110#4 5#4)

/-- The table's number of an instruction, laid out as the hardware stores it, is read back as that instruction
(R58 to R61, R70; log 22). -/
def Obligations.TableWordIsItsInstruction : Prop :=
  ∀ i : Instr, i.wellFormed = true → decodeTableWord 32 (encodeWord i).toNat = some i

/-! ### A step -/

/-- When no input of the rest of the machine is next and the bytes at an aligned pc decode to an instruction, the step is
that instruction's own (R12, R199), at the state with the turn taken from the list (which is that state itself when no
turn is listed; log 24). The step adds nothing else: moving the pc is part of the instruction's meaning (R28). -/
def Obligations.StepRunsTheDecodedInstruction : Prop :=
  ∀ (s : State) (bytes after : List Byte) (i : Instr), inputNext s = none → pcAligned s = true →
    fetchBytes s = some bytes → decode s.pstate.iset bytes = .ok (i, after) →
      step s = exec i (afterTurn s) ∧ (s.rest = [] → afterTurn s = s)

/-- One turn a step, in the order listed: an input that is next is what the step does, and the step, whatever it is,
leaves the turns after the first. So an input can fall between any two instructions of a run: listed after an
instruction, it is what the step after that instruction does, and the turns after it follow (R10; the list of turns is
the model's choice, log 24). -/
def Obligations.TurnsAreTakenInOrder : Prop :=
  ∀ s : State,
    (∀ e, inputNext s = some e → step s = applyRest (afterTurn s) e) ∧
    (∀ s', step s = .next s' → s'.rest = s.rest.tail) ∧
    ∀ s' e es, s.rest = .instruction :: .input e :: es → step s = .next s' →
      step s' = applyRest (afterTurn s') e ∧ (afterTurn s').rest = es

/-- An instruction's word placed for the next step is the instruction that step runs (log 21). -/
def Obligations.PlacedWordIsTheNextStep : Prop :=
  ∀ (i : Instr) (s : State), i.wellFormed = true → s.pc.toNat % 4 = 0 →
    step (s.withFetchWord 32 (encodeWord i).toNat) = exec i (s.withFetchWord 32 (encodeWord i).toNat)

/-- Bytes that no instruction of the table encodes are refused by the step, whatever the instruction set: they are not
treated as a no-op (R68, D30). -/
def Obligations.OtherWordsAreRefused : Prop :=
  ∀ (s : State) (bytes : List Byte), inputNext s = none → pcAligned s = true → fetchBytes s = some bytes →
    (∀ i : Instr, i.wellFormed = true → bytes ≠ encode i ∧ bytes ≠ encodeT32 i) →
      ∃ e, step s = .refused (.undecoded e)

/-! ### The accessors -/

/-- The chain of `MRS <Xt>, HFGRTR_EL2` (R146): what it answers at each Exception level, row by row; a transfer that
completes moves the pc on by 4. The conditions are the rule's, on the effective values of R15 and R25 and the
predicates of R26. The record the redirected access leaves (R52) is `RedirectedMrsReadsMemory`'s. -/
def Obligations.MrsChain : Prop :=
  ∀ (s : State) (t : BitVec 5),
    (s.cfg.haveFGT = false → mrsHfgrtrResult s t = .raise .undefined) ∧
    (s.cfg.haveFGT = true →
      (s.pstate.el = .el0 → mrsHfgrtrResult s t = .raise .undefined) ∧
      (s.pstate.el = .el1 →
        (nvMatches1x1 s = true ∧ nvMemReady s →
          ∃ e, mrsHfgrtrResult s t = finish { writeX s t (nvRead s) with events := e }) ∧
        (nvMatches1x1 s = false ∧ nvMatchesxx1 s = true →
          mrsHfgrtrResult s t = .raise (.trap .el2 0x18#6)) ∧
        (nvMatchesxx1 s = false → mrsHfgrtrResult s t = .raise .undefined)) ∧
      (s.pstate.el = .el2 →
        (s.cfg.haveEL3 = true ∧ s.ctx.fgten = false ∧ (el3SDDUndefPriority s = true ∨ el3SDDUndef s = true) →
          mrsHfgrtrResult s t = .raise .undefined) ∧
        (s.cfg.haveEL3 = true ∧ s.ctx.fgten = false ∧ el3SDDUndef s = false →
          mrsHfgrtrResult s t = .raise (.trap .el3 0x18#6)) ∧
        (gateOpen s → mrsHfgrtrResult s t = finish (writeX s t (s.cfg.maskRES0 s.hfgrtr)))) ∧
      (s.pstate.el = .el3 → mrsHfgrtrResult s t = finish (writeX s t (s.cfg.maskRES0 s.hfgrtr))))

/-- The chain of `MSR HFGRTR_EL2, <Xt>` (R150), row by row. Two clauses are not R150's own words: that a transfer with the
register leaves the value it replaces pending, also over an earlier pending value (R33, D17; log 17, DESIGN CHOICE), and
that the redirected access is recorded (R52). -/
def Obligations.MsrChain : Prop :=
  ∀ (s : State) (t : BitVec 5),
    (s.cfg.haveFGT = false → msrHfgrtrResult s t = .raise .undefined) ∧
    (s.cfg.haveFGT = true →
      (s.pstate.el = .el0 → msrHfgrtrResult s t = .raise .undefined) ∧
      (s.pstate.el = .el1 →
        (nvMatches1x1 s = true ∧ nvMemReady s →
          msrHfgrtrResult s t = finish (recordNV (nvWrite s (readX s t)) .write (readX s t))) ∧
        (nvMatches1x1 s = false ∧ nvMatchesxx1 s = true →
          msrHfgrtrResult s t = .raise (.trap .el2 0x18#6)) ∧
        (nvMatchesxx1 s = false → msrHfgrtrResult s t = .raise .undefined)) ∧
      (s.pstate.el = .el2 →
        (s.cfg.haveEL3 = true ∧ s.ctx.fgten = false ∧ (el3SDDUndefPriority s = true ∨ el3SDDUndef s = true) →
          msrHfgrtrResult s t = .raise .undefined) ∧
        (s.cfg.haveEL3 = true ∧ s.ctx.fgten = false ∧ el3SDDUndef s = false →
          msrHfgrtrResult s t = .raise (.trap .el3 0x18#6)) ∧
        (gateOpen s → msrHfgrtrResult s t = finish (writeHfgrtr s (readX s t)))) ∧
      (s.pstate.el = .el3 → msrHfgrtrResult s t = finish (writeHfgrtr s (readX s t))))

/-- Neither chain looks at the register, at a pending value of it, at memory or at `EL2Enabled` to decide its outcome, at any
level (R145, R155): with all four replaced, the outcome is the same but for the state a transfer leaves. -/
def Obligations.AccessorOutcomeIgnoresRegisterMemoryAndEL2Enabled : Prop :=
  ∀ (s any : State) (t : BitVec 5) (v : Word) (p : Option Word) (m : List Host.Cell) (b : Bool),
    outcomeKind any (mrsHfgrtrResult
        { s with hfgrtr := v, pending := p, mem := m, ctx := { s.ctx with el2Enabled := b } } t) =
      outcomeKind any (mrsHfgrtrResult s t) ∧
    outcomeKind any (msrHfgrtrResult
        { s with hfgrtr := v, pending := p, mem := m, ctx := { s.ctx with el2Enabled := b } } t) =
      outcomeKind any (msrHfgrtrResult s t)

/-- An accessor at EL0 or EL1 does the same whatever the register holds, and leaves it (R155). -/
def Obligations.AccessorBelowEL2CannotSeeTheRegister : Prop :=
  ∀ (s : State) (t : BitVec 5) (v : Word) (i : Instr), i = .mrsHfgrtrEl2 t ∨ i = .msrHfgrtrEl2 t →
    s.pstate.el = .el0 ∨ s.pstate.el = .el1 →
      exec i { s with hfgrtr := v } = mapNext (fun u => { u with hfgrtr := v }) (exec i s) ∧
      ∀ s', exec i s = .next s' → s'.hfgrtr = s.hfgrtr

/-- `MRS <Xt>, HFGRTR_EL2` completes wherever it reaches the register (R146): the destination holds the register, its
RES0 bits as R20 says, the pc moves on, and nothing else changes. Register 31 discards the value (R27, R62). -/
def Obligations.MrsCompletesWithTheRegister : Prop :=
  ∀ (s : State) (t : BitVec 5), s.Wf → s.cfg.haveFGT = true → reachesRegister s → pcHasRoom s →
    exec (.mrsHfgrtrEl2 t) s = .next (advance (writeX s t (s.cfg.maskRES0 s.hfgrtr))) ∧
      exec (.mrsHfgrtrEl2 31#5) s = .next (advance s)

/-- `MSR HFGRTR_EL2, <Xt>` completes wherever it reaches the register (R150, R152): every named, implemented field takes
its bit of the source, every other bit is 0 or what was written as R20 says, the old value is pending (R33, D17;
log 17, DESIGN CHOICE), and nothing else changes but the pc. Register 31 writes zero (R27, R62). MARKED as R22 asks:
for the ten fields of bits 49 to 40 it rests on decision D34 (log 27, DESIGN CHOICE). -/
def Obligations.MsrCompletesInTheRegister : Prop :=
  ∀ (s : State) (t : BitVec 5), s.Wf → s.cfg.haveFGT = true → reachesRegister s → pcHasRoom s →
    ∃ w, exec (.msrHfgrtrEl2 t) s = .next (advance { s with hfgrtr := w, pending := some s.hfgrtr }) ∧
      (∀ f, s.cfg.haveEL2 = true → s.cfg.featOf f = true →
        w.getLsbD (s.cfg.bitOf f) = (readX s t).getLsbD (s.cfg.bitOf f)) ∧
      (s.cfg.res0Stored = true → w = readX s t) ∧
      (s.cfg.res0Stored = false → ∀ b,
        (∀ f, s.cfg.bitOf f = b → s.cfg.haveEL2 = false ∨ s.cfg.featOf f = false) → w.getLsbD b = false) ∧
      (t = 31#5 → readX s t = 0#64)

/-- At EL1 with `EffNVx` matching `1x1` the read is a 64-bit read of memory at `NVBase + 0x1B8`, unmasked, its byte `i`
holding bits `8i+7:8i` of the value in little-endian order and bits `63-8i:56-8i` in big-endian order; it reads
neither the register nor `SCR_EL3.FGTEn`, and is recorded as one event (R44 to R48, R52, R146, R148). -/
def Obligations.RedirectedMrsReadsMemory : Prop :=
  ∀ (s : State) (t : BitVec 5), s.Wf → s.cfg.haveFGT = true → redirected s → nvMemReady s → pcHasRoom s →
    ∃ v, exec (.mrsHfgrtrEl2 t) s = .next (advance { writeX s t v with events := s.events ++
        [{ performer := .pe, address := s.ctx.nvBase + 0x1B8#64, size := 8, value := v, direction := .read }] }) ∧
      ∀ i, i < 8 → memRead s.mem ((s.ctx.nvBase + 0x1B8#64).toNat + i) =
        v.extractLsb' (if s.ctx.nvBigEndian then 56 - 8 * i else 8 * i) 8

/-- At EL1 with `EffNVx` matching `1x1` the write stores all 64 bits of the source in the eight bytes at
`NVBase + 0x1B8`, bit 51 and every RES0 bit included, leaves every other byte, and leaves the register; it is recorded as
one event (R44, R46, R47, R48, R52, R150). -/
def Obligations.RedirectedMsrStoresEightBytes : Prop :=
  ∀ (s : State) (t : BitVec 5), s.Wf → s.cfg.haveFGT = true → redirected s → nvMemReady s → pcHasRoom s →
    ∃ m, exec (.msrHfgrtrEl2 t) s = .next (advance { s with mem := m, events := s.events ++
        [{ performer := .pe, address := s.ctx.nvBase + 0x1B8#64, size := 8, value := readX s t,
           direction := .write }] }) ∧
      (∀ i, i < 8 → memRead m ((s.ctx.nvBase + 0x1B8#64).toNat + i) =
        (readX s t).extractLsb' (if s.ctx.nvBigEndian then 56 - 8 * i else 8 * i) 8) ∧
      ∀ a, outsideNVMem s a → memRead m a = memRead s.mem a

/-- What was written to the register is what is read back, in every named implemented field, and in every bit where RES0
bits are storage; a second read returns the same (R154, R192). MARKED as R22 asks: for the ten fields of bits 49 to
40 it rests on decision D34 (log 27, DESIGN CHOICE). -/
def Obligations.RegisterReadsBackWhatWasWritten : Prop :=
  ∀ (s : State) (a b : BitVec 5), s.Wf → s.cfg.haveFGT = true → s.cfg.haveEL2 = true → reachesRegister s →
    s.pc.toNat + 12 < 2 ^ 64 → b ≠ 31#5 →
      ∃ s1 s2 s3, exec (.msrHfgrtrEl2 a) s = .next s1 ∧ exec (.mrsHfgrtrEl2 b) s1 = .next s2 ∧
        exec (.mrsHfgrtrEl2 b) s2 = .next s3 ∧ readX s3 b = readX s2 b ∧
        (∀ f, s.cfg.featOf f = true →
          (readX s2 b).getLsbD (s.cfg.bitOf f) = (readX s a).getLsbD (s.cfg.bitOf f)) ∧
        (s.cfg.res0Stored = true → readX s2 b = readX s a)

/-- At EL1 with `EffNVx` matching `1x1`, what was stored is read back in all 64 bits, and the register is untouched, so
that the traps that apply are still those of the real register (R154, R194). -/
def Obligations.RedirectedReadsBackWhatWasStored : Prop :=
  ∀ (s : State) (a b : BitVec 5), s.Wf → s.cfg.haveFGT = true → redirected s → nvMemReady s →
    s.pc.toNat + 8 < 2 ^ 64 → b ≠ 31#5 →
      ∃ s1 s2, exec (.msrHfgrtrEl2 a) s = .next s1 ∧ exec (.mrsHfgrtrEl2 b) s1 = .next s2 ∧
        readX s2 b = readX s a ∧ s2.hfgrtr = s.hfgrtr ∧ s2.pending = s.pending ∧
        ∀ r, trapped s2 r = trapped s r

/-- Without EL2 the register is RES0 from EL3, and no read is trapped whatever it holds (R15): a read returns 0 and a write
leaves 0 when RES0 bits are hardwired; a read returns what is held and a write is held whole when they are storage
(R20). That the write leaves the value it replaces pending is R33 and D17 (log 17, DESIGN CHOICE). -/
def Obligations.WithoutEL2TheRegisterIsRES0 : Prop :=
  ∀ (s : State) (t : BitVec 5), s.cfg.haveEL2 = false →
    (∀ r, trapped s r = false) ∧
      (s.Wf → s.cfg.haveFGT = true → s.pstate.el = .el3 → pcHasRoom s →
        (s.cfg.res0Stored = false →
          exec (.mrsHfgrtrEl2 t) s = .next (advance (writeX s t 0#64)) ∧
            exec (.msrHfgrtrEl2 t) s =
              .next (advance { s with hfgrtr := 0#64, pending := some s.hfgrtr })) ∧
        (s.cfg.res0Stored = true →
          exec (.mrsHfgrtrEl2 t) s = .next (advance (writeX s t s.hfgrtr)) ∧
            exec (.msrHfgrtrEl2 t) s =
              .next (advance { s with hfgrtr := readX s t, pending := some s.hfgrtr })))

/-- What an accessor leaves unchanged, whether it completes or its exception is entered: no general register but the
destination of the `MRS`; the register but for an `MSR` that reaches it; every byte of memory but the eight an `MSR`
is redirected to; the record of accesses but where it is redirected; the configuration, the context, the program text
and the turns; and without an exception, `PSTATE`, the exception registers and, but for that `MSR`, the pending value; and with one, no more than its entry
writes (R33, R150, R157). -/
def Obligations.AccessorFrame : Prop :=
  ∀ (s s' : State) (t : BitVec 5) (i : Instr), i = .mrsHfgrtrEl2 t ∨ i = .msrHfgrtrEl2 t → exec i s = .next s' →
    (∀ n, isDestination i n = false → readX s' n = readX s n) ∧
    (¬ (i = .msrHfgrtrEl2 t ∧ reachesRegister s) → s'.hfgrtr = s.hfgrtr) ∧
    (∀ a, ¬ (i = .msrHfgrtrEl2 t ∧ redirected s ∧ ¬ outsideNVMem s a) → memRead s'.mem a = memRead s.mem a) ∧
    (¬ redirected s → s'.events = s.events) ∧
    s'.cfg = s.cfg ∧ s'.ctx = s.ctx ∧ s'.text = s.text ∧ s'.rest = s.rest ∧
    ((s'.pstate = s.pstate ∧ s'.exc1 = s.exc1 ∧ s'.exc2 = s.exc2 ∧ s'.exc3 = s.exc3 ∧
        s'.freeCount = s.freeCount ∧
        (¬ (i = .msrHfgrtrEl2 t ∧ reachesRegister s) → s'.pending = s.pending)) ∨
      ∃ u ec iss, s' = enterException s u ec iss)

/-! ### The exceptions -/

/-- A trapped access at EL1 with nested virtualisation, and at EL2 with the gate closed: the exception is entered at EL2,
or at EL3, with EC 0x18 and the syndrome of the access, and neither the register, nor memory, nor a general register
is written (R146, R149, R150, R157, R162; that the entry is a next state is the model's choice, log 1). -/
def Obligations.TrappedAccessorEntersTheException : Prop :=
  ∀ (s : State) (t : BitVec 5) (i : Instr) (isRead : Bool),
    i = .mrsHfgrtrEl2 t ∧ isRead = true ∨ i = .msrHfgrtrEl2 t ∧ isRead = false →
    s.Wf → s.cfg.haveFGT = true →
      (s.pstate.el = .el1 → nvMatches1x1 s = false → nvMatchesxx1 s = true →
        exec i s = .next (enterException s .el2 0x18#6 (issOf hfgrtrPoint t isRead))) ∧
      (s.pstate.el = .el2 → s.cfg.haveEL3 = true → s.ctx.fgten = false → el3SDDUndef s = false →
        exec i s = .next (enterException s .el3 0x18#6 (issOf hfgrtrPoint t isRead)))

/-- The syndrome of `MRS X1, HFGRTR_EL2` trapped from EL1 is 0x62390423 (R162's own worked value). -/
def Obligations.SyndromeOfTheWorkedExample : Prop :=
  ∀ (s s' : State), s.cfg.haveFGT = true → s.pstate.el = .el1 → nvMatches1x1 s = false → nvMatchesxx1 s = true →
    exec (.mrsHfgrtrEl2 1#5) s = .next s' → s'.exc2.esr = 0x62390423#64

/-- An UNDEFINED accessor enters the exception of EC 0x00: from EL0 at EL1, or at EL2 when the effective TGE is 1, and
otherwise at its own level (R14, R146, R150, R160; log 3). The ISS is a free value (log 4). -/
def Obligations.UndefinedAccessorEntersTheException : Prop :=
  ∀ (s : State) (t : BitVec 5) (i : Instr), i = .mrsHfgrtrEl2 t ∨ i = .msrHfgrtrEl2 t → s.Wf →
    (undefinedTarget s = .el1 → s.ctx.el1A64 = true) → levelImplemented s.cfg s.pstate.el = true →
    (s.cfg.haveFGT = false ∨ s.pstate.el = .el0 ∨ (s.pstate.el = .el1 ∧ nvMatchesxx1 s = false) ∨
      (s.pstate.el = .el2 ∧ s.cfg.haveEL3 = true ∧ s.ctx.fgten = false ∧ el3SDDUndef s = true)) →
      ∃ u iss, exec i s = .next (enterException s u 0x00#6 iss) ∧
        (s.pstate.el = .el0 → (effE2hTge s).getLsbD 0 = true → u = .el2) ∧
        (s.pstate.el = .el0 → (effE2hTge s).getLsbD 0 = false → u = .el1) ∧
        (s.pstate.el ≠ .el0 → u.el = s.pstate.el)

/-- Where an accessor stops. A state whose `NVBase` is not a multiple of 8 is refused (R48, D12). Where the redirected access
cannot be made it stops: a refusal where the location overlaps the program text, which a well-formed state rules out
(R55, D23) and which the model refuses at the access by its own choice (log 21, DESIGN CHOICE), a fault when the memory
oracle answers abort (R50, R161). And an access that completes at the top of the address space, with the register or
redirected, is refused (R28, D18). -/
def Obligations.WhereAnAccessorStops : Prop :=
  ∀ (s : State) (t : BitVec 5) (i : Instr), i = .mrsHfgrtrEl2 t ∨ i = .msrHfgrtrEl2 t → s.cfg.Wf →
    (s.ctx.nvBase.toNat % 8 ≠ 0 → exec i s = .refused .nvBaseMisaligned) ∧
    (s.ctx.nvBase.toNat % 8 = 0 → s.cfg.haveFGT = true →
      (redirected s → ¬ nvOffText s → exec i s = .refused .nvOverlapsText) ∧
      (redirected s → nvOffText s → s.ctx.nvAbort = true → exec i s = .fault .nvMemAbort) ∧
      (redirected s → nvMemReady s → ¬ pcHasRoom s → exec i s = .refused .pcWrap) ∧
      (reachesRegister s → ¬ pcHasRoom s → exec i s = .refused .pcWrap))

/-- Exception entry (R163): the address of the instruction, `PSTATE` and the syndrome are saved at the target, whose EC
is in bits 31:26 with IL = 1 below it; the level is the target with D, A, I, F and SP set, in AArch64; the pc is at
the vector, 0x400 from a lower level using AArch64 and 0x600 from one using AArch32; the entry synchronizes the
context (R33), and no general register, no memory and not the register is written (R157). With EC 0x18 the syndrome's
upper half is 0 (R162), with any other it is free (log 4). That EL2 and EL3 use AArch64 is log 26 (DESIGN CHOICE), and
that the lower level's execution state is the one the instruction executed in is log 2. -/
def Obligations.EntryEffect : Prop :=
  ∀ (s s' : State) (u : Target) (ec : BitVec 6) (iss : BitVec 25), takeException s u ec iss = .next s' →
    (excRegs s' u).elr = s.pc ∧ (excRegs s' u).spsr = s.pstate ∧
    (excRegs s' u).esr.extractLsb' 26 6 = ec ∧ (excRegs s' u).esr.getLsbD 25 = true ∧
    (excRegs s' u).esr.extractLsb' 0 25 = iss ∧ (ec = 0x18#6 → (excRegs s' u).esr.extractLsb' 32 32 = 0#32) ∧
    (excRegs s' u).vbar = (excRegs s u).vbar ∧
    (∀ o, o ≠ u → excRegs s' o = excRegs s o) ∧
    s'.pstate = { el := u.el, daif := 0b1111#4, sp := true, iset := .a64 } ∧
    (s.pstate.el.num < u.el.num →
      s'.pc = (excRegs s u).vbar + (if s.pstate.iset = .a64 then 0x400#64 else 0x600#64)) ∧
    s'.pending = none ∧ s'.x = s.x ∧ s'.mem = s.mem ∧ s'.events = s.events ∧ s'.hfgrtr = s.hfgrtr ∧ s'.ctx = s.ctx

/-- An exception taken to the level it is raised at starts at offset 0x200 of its vectors with SP = 1 and at 0x000 with
SP = 0, where R163 gives the offsets from a lower level only: the model's choice (log 2, PRESUMED). So an accessor that
is UNDEFINED above EL0 (R160) goes there. -/
def Obligations.EntryToTheCurrentLevel : Prop :=
  (∀ (s s' : State) (u : Target) (ec : BitVec 6) (iss : BitVec 25), takeException s u ec iss = .next s' →
    u.el = s.pstate.el → s'.pc = (excRegs s u).vbar + (if s.pstate.sp then 0x200#64 else 0x000#64)) ∧
  (∀ (s s' : State) (t : BitVec 5) (i : Instr) (u : Target), i = .mrsHfgrtrEl2 t ∨ i = .msrHfgrtrEl2 t →
    s.cfg.haveFGT = false → u.el = s.pstate.el → exec i s = .next s' →
      s'.pc = (excRegs s u).vbar + (if s.pstate.sp then 0x200#64 else 0x000#64))

/-- Where an exception is not entered (log 26, DESIGN CHOICE): one to a level that is absent or lower than the current one,
which no machine takes, and one to EL1 using AArch32, whose entry the spec does not describe (R157, R163). So an UNDEFINED
accessor at EL0 (R160) is refused under an EL1 using AArch32, and so is a read for which the rest of the machine answers
an exception to an absent or lower level; everywhere else the exception is entered. -/
def Obligations.WhereAnEntryIsRefused : Prop :=
  (∀ (s : State) (u : Target) (ec : BitVec 6) (iss : BitVec 25),
    ((levelImplemented s.cfg u.el = false ∨ u.el.num < s.pstate.el.num) →
      takeException s u ec iss = .refused .illFormedContext) ∧
    (levelImplemented s.cfg u.el = true → s.pstate.el.num ≤ u.el.num →
      (u = .el1 ∧ s.ctx.el1A64 = false → takeException s u ec iss = .refused .aarch32Entry) ∧
      (u ≠ .el1 ∨ s.ctx.el1A64 = true → takeException s u ec iss = .next (enterException s u ec iss)))) ∧
  (∀ (s : State) (t : BitVec 5) (i : Instr), i = .mrsHfgrtrEl2 t ∨ i = .msrHfgrtrEl2 t → s.Wf →
    s.pstate.el = .el0 → (effE2hTge s).getLsbD 0 = false → s.ctx.el1A64 = false →
      exec i s = .refused .aarch32Entry) ∧
  (∀ (i : Instr) (k : ReadKind) (reg : SysReg) (s : State) (u : Target) (ec : BitVec 6),
    readOf i = some (k, reg) → s.Wf → condOk s i = true → higherPriority s (readIn s k reg) = some (.trap u ec) →
    (levelImplemented s.cfg u.el = false ∨ u.el.num < s.pstate.el.num) → exec i s = .refused .illFormedContext)

/-- A return right after an entry restores `PSTATE` and the pc, and leaves the general registers, memory and the register
as they were; when the handler first adds 4 to `ELR`, it resumes after the instruction (R164). -/
def Obligations.ReturnUndoesEntry : Prop :=
  ∀ (s s' : State) (u : Target) (ec : BitVec 6) (iss : BitVec 25), levelImplemented s.cfg s.pstate.el = true →
    takeException s u ec iss = .next s' →
      (∃ r, exceptionReturn s' = some r ∧ r.pc = s.pc ∧ r.pstate = s.pstate ∧ r.x = s.x ∧ r.mem = s.mem ∧
        r.hfgrtr = s.hfgrtr ∧ r.pending = none) ∧
      ∃ r, exceptionReturn
          (setExcRegs s' u { excRegs s' u with elr := (excRegs s' u).elr + 4#64 }) = some r ∧
        r.pc = s.pc + 4#64 ∧ r.pstate = s.pstate ∧ r.x = s.x ∧ r.mem = s.mem ∧ r.hfgrtr = s.hfgrtr

/-- The ISS of EC 0x18 tells apart the coordinates of a System register, the general register and the direction: equal ISS,
equal all three (R155). MARKED as R162 asks: the layout is general knowledge the spec supplies. It does not tell an `MRS`
from an `MRRS` of one register. -/
def Obligations.SyndromeIdentifiesPointRegisterAndDirection : Prop :=
  ∀ (p q : Point) (t u : BitVec 5) (d e : Bool), issOf p t d = issOf q u e → p = q ∧ t = u ∧ d = e

/-! ### The trap mechanism -/

/-- The common condition (R74): `FGRT_Common(s)` is `EL2Enabled(s) && (!HaveEL3 || FGTEn(s) == 1)`, it implies that EL2 is
implemented, and when it is false no read is trapped, whatever the register holds. -/
def Obligations.CommonConditionGatesEveryTrap : Prop :=
  ∀ s : State,
    (fgrtCommon s = true ↔ (s.cfg.haveEL2 = true ∧ s.ctx.el2Enabled = true) ∧ gateOpen s) ∧
      ∀ (v : Word) (p : Option Word) (r : Read), fgrtCommon s = false →
        trapped { s with hfgrtr := v, pending := p } r = false

/-- The eight fields whose entries say "at EL1 and EL0", and no others, cover EL0; none of them traps when the effective
value of `HCR_EL2.{E2H, TGE}` is {1, 1}, every other value of the pair is the same to them, and to every other field
the pair makes no difference at all (R75, R170). -/
def Obligations.HostAtEL2Condition : Prop :=
  ∀ (s : State) (r : Read) (f : Field),
    (f.coversEL0 = true ↔ f ∈ [Field.nPorEl0, Field.nTpidr2El0, Field.nGcsEl0, Field.tpidrEl0, Field.tpidrroEl0,
      Field.scxtnumEl0, Field.dczidEl0, Field.ctrEl0]) ∧
    (f.coversEL0 = true → s.cfg.haveEL2 = true → s.ctx.e2hTge = 0b11#2 → fgrtTraps s r f = false) ∧
    (f.coversEL0 = true → ∀ w, w ≠ 0b11#2 → fgrtTraps { s with ctx := { s.ctx with e2hTge := w } } r f =
      fgrtTraps { s with ctx := { s.ctx with e2hTge := 0b00#2 } } r f) ∧
    (f.coversEL0 = false → ∀ w, fgrtTraps { s with ctx := { s.ctx with e2hTge := w } } r f = fgrtTraps s r f)

/-- Which reads can be trapped (R79, R171, R172): never one at EL2 or EL3; none at all while EL1 is using AArch32 (D33); at
EL0 only by a field that covers EL0; an `MRC` only at EL0 using AArch32; any other read only using AArch64; and only
with the feature and EL2 there. -/
def Obligations.WhatATrappedReadIs : Prop :=
  ∀ (s : State) (r : Read), trapped s r = true →
    (r.el = .el0 ∨ r.el = .el1) ∧
    (∃ f, s.cfg.fieldOf r.reg = some f ∧ s.cfg.featOf f = true ∧ (r.el = .el0 → f.coversEL0 = true)) ∧
    (r.kind = .mrc → r.el = .el0 ∧ r.iset ≠ .a64) ∧ s.ctx.el1A64 = true ∧
    (r.kind ≠ .mrc → r.iset = .a64) ∧
    s.cfg.haveFGT = true ∧ s.cfg.haveEL2 = true

/-- Two fields never both cover one read; a configuration that would let them is refused by every instruction; and no
instruction is both an accessor of the register and a read (R77, R167, D29). -/
def Obligations.AtMostOneFieldCoversARead : Prop :=
  (∀ (c : Config) (f g : Field) (r : Read), covers c f r = true → covers c g r = true → f = g) ∧
    (∀ (i : Instr) (s : State), ¬ s.cfg.Wf → exec i s = .refused .illFormedConfig) ∧
    (∀ (i : Instr) (t : BitVec 5), i = .mrsHfgrtrEl2 t ∨ i = .msrHfgrtrEl2 t → readOf i = none)

/-- A read covered by a field in its trapping state, with no exception of higher priority, enters the exception at EL2
with the EC of its kind, whatever it reads, and its destination is not written (R76, R77, R157). EL1 is using AArch64, as
R171 and D33 ask for any read to be covered (log 31). It holds for all 82
reads; the entry as a next state is log 1. -/
def Obligations.CoveredReadTrapsToEL2 : Prop :=
  ∀ (i : Instr) (k : ReadKind) (reg : SysReg) (f : Field) (s : State), readOf i = some (k, reg) →
    s.Wf → condOk s i = true → higherPriority s (readIn s k reg) = none → s.cfg.fieldOf reg = some f →
    s.cfg.haveFGT = true → s.cfg.featOf f = true → k ∈ f.kinds →
    (k ≠ .mrc → s.pstate.iset = .a64 ∧ (s.pstate.el = .el1 ∨ (s.pstate.el = .el0 ∧ f.coversEL0 = true))) →
    (k = .mrc → s.pstate.iset ≠ .a64 ∧ s.pstate.el = .el0 ∧ f.coversEL0 = true) →
    s.cfg.haveEL2 = true → s.ctx.el2Enabled = true → gateOpen s →
    (f.coversEL0 = true → s.ctx.e2hTge ≠ 0b11#2) → s.ctx.el1A64 = true →
    (governing s).getLsbD (s.cfg.bitOf f) = !f.negative →
      ∃ iss, exec i s = .next (enterException s .el2 (ecOf s.cfg k) iss) ∧
        ∀ n, readX (enterException s .el2 (ecOf s.cfg k) iss) n = readX s n

/-- Under the default tables every read follows the rule of its own field, R80 to R143: with the common condition, no
exception of higher priority and no write pending, it is trapped to EL2 when the field's bit of the register has the
field's trapping value, and is handed to the rest of the machine when it has not. The bit, the value and the levels
are those of the table of R17, written out again in `SysReg.ruleRow`. -/
def Obligations.EveryReadFollowsItsFieldRule : Prop :=
  ∀ (i : Instr) (k : ReadKind) (reg : SysReg) (s : State), readOf i = some (k, reg) →
    s.Wf → defaultTables s.cfg → condOk s i = true → higherPriority s (readIn s k reg) = none → s.pending = none →
    s.cfg.haveFGT = true → s.cfg.haveEL2 = true → s.ctx.el2Enabled = true → gateOpen s →
    s.ctx.e2hTge ≠ 0b11#2 → s.ctx.el1A64 = true →
    (k ≠ .mrc → s.pstate.iset = .a64 ∧ (s.pstate.el = .el1 ∨ (s.pstate.el = .el0 ∧ reg.ruleRow.2.2 = true))) →
    (k = .mrc → s.pstate.iset ≠ .a64 ∧ s.pstate.el = .el0) →
      (s.hfgrtr.getLsbD reg.ruleRow.1 = reg.ruleRow.2.1 →
        exec i s = .next (enterException s .el2 (ecOf s.cfg k) (syndromeISS s i.access (ecOf s.cfg k)))) ∧
      (s.hfgrtr.getLsbD reg.ruleRow.1 ≠ reg.ruleRow.2.1 → exec i s = handOver s i.access)

/-- The trap is taken only when the read generates no exception of higher priority (R78): when it does, that exception
is raised, whatever the register holds. -/
def Obligations.HigherPriorityComesFirst : Prop :=
  ∀ (i : Instr) (k : ReadKind) (reg : SysReg) (s : State) (e : Exn) (v : Word) (p : Option Word),
    readOf i = some (k, reg) → s.Wf → condOk s i = true → higherPriority s (readIn s k reg) = some e →
      exec i { s with hfgrtr := v, pending := p } =
        raiseException { s with hfgrtr := v, pending := p } i.access e

/-- A read depends on the register through the bit of its own field alone, and not even on that when the field's feature
is absent: every other bit, the reserved bit 51 and every other RES0 bit among them, makes no difference to what it
does (R20, R21, R77, R92). -/
def Obligations.ReadDependsOnItsOwnFieldAlone : Prop :=
  ∀ (i : Instr) (k : ReadKind) (reg : SysReg) (s : State) (v : Word), readOf i = some (k, reg) →
    s.pending = none →
    (∀ f, s.cfg.fieldOf reg = some f → s.cfg.featOf f = true →
      v.getLsbD (s.cfg.bitOf f) = s.hfgrtr.getLsbD (s.cfg.bitOf f)) →
      exec i { s with hfgrtr := v } = mapNext (fun u => { u with hfgrtr := v }) (exec i s)

/-- A conditional field whose feature is absent traps nothing, for its `n` fields too, and its bit is RES0: a write
leaves 0 in it when RES0 bits are hardwired (R20, R21, D5). -/
def Obligations.AbsentFieldIsInertAndRES0 : Prop :=
  ∀ (s s' : State) (f : Field) (t : BitVec 5), f.conditional = true → f ∈ s.cfg.absent →
    (∀ r, s.cfg.fieldOf r.reg = some f → trapped s r = false) ∧
      (exec (.msrHfgrtrEl2 t) s = .next s' → reachesRegister s → s.cfg.haveFGT = true → s.cfg.res0Stored = false →
        s'.hfgrtr.getLsbD (s.cfg.bitOf f) = false)

/-- While a write is pending a read may be decided by the old value or by the new one, and both are admitted; a context
synchronization leaves the new one (R33, R193; which is used is the model's `useOld`, log 17). -/
def Obligations.PendingWriteAdmitsBothValues : Prop :=
  ∀ (s : State) (old : Word) (r : Read), s.pending = some old →
    (s.ctx.useOld = true → trapped s r = trapped { s with hfgrtr := old, pending := none } r) ∧
    (s.ctx.useOld = false → trapped s r = trapped { s with pending := none } r) ∧
    trapped (contextSync s) r = trapped { s with pending := none } r

/-- `NOTRAP` traps nothing and `ALLTRAP` traps every read the register can trap, under the default bit positions and
whatever features are absent (R19, R189). -/
def Obligations.NotrapAndAlltrap : Prop :=
  ∀ (s : State) (r : Read), s.cfg.bitpos = defaultBitpos → s.pending = none →
    (s.hfgrtr = NOTRAP → trapped s r = false) ∧
      (s.hfgrtr = ALLTRAP → (trapped s r = true ↔ ∃ v, trapped { s with hfgrtr := v } r = true))

/-- Software that writes `NOTRAP` at EL2 or EL3 and then leaves that level, by an exception return or by any change of
level, reaches a state in which no read is trapped (R189, R193; for bits 49 to 40 by decision D34, log 27). -/
def Obligations.NotrapWriteThenLevelChangeTrapsNothing : Prop :=
  ∀ (s s1 s2 : State) (t : BitVec 5) (e : RestEvent) (r : Read), s.cfg.bitpos = defaultBitpos →
    s.cfg.haveFGT = true → reachesRegister s → readX s t = NOTRAP → exec (.msrHfgrtrEl2 t) s = .next s1 →
    (e = .exceptionReturn ∨ ∃ el iset pc, e = .levelChange el iset pc) → applyRest s1 e = .next s2 →
      trapped s2 r = false

/-! ### Reads that this hardware does not trap -/

/-- An `MRS` read that is not trapped, and that the rest of the machine completes, writes its destination with a value the
model leaves free and moves on; the register, memory and every other register stay (R79; the completion is the
model's hand-over, log 5). All 76 `MRS` reads complete so. -/
def Obligations.UntrappedMrsCompletes : Prop :=
  ∀ (i : Instr) (reg : SysReg) (t : BitVec 5) (s : State), i.access = .mrs reg t → s.Wf → pcHasRoom s →
    higherPriority s (readIn s .mrs reg) = none → s.ctx.untrapped = .completes → trapped s (readIn s .mrs reg) = false →
      exec i s = .next { advance (writeX s t ((Config.freeRead reg s.freeCount).extractLsb' 0 64)) with
        freeCount := s.freeCount + 1 }

/-- An `MRRS` read that is not trapped, and that the rest of the machine completes, writes the low half of a free 128-bit
value to `Xt` and the high half to `Xt+1` (R60, R79; log 5). All four `MRRS` reads complete so. -/
def Obligations.UntrappedMrrsCompletes : Prop :=
  ∀ (i : Instr) (reg : SysReg) (t : BitVec 5) (s : State), i.access = .mrrs reg t → s.Wf → pcHasRoom s →
    higherPriority s (readIn s .mrrs reg) = none → s.ctx.untrapped = .completes → trapped s (readIn s .mrrs reg) = false →
      exec i s = .next { advance (writeX (writeX s t ((Config.freeRead reg s.freeCount).extractLsb' 0 64)) (t + 1#5)
        ((Config.freeRead reg s.freeCount).extractLsb' 64 64)) with freeCount := s.freeCount + 1 }

/-- An `MRC` read that is not trapped, and that the rest of the machine completes, writes its destination with a free
value, and no register when `Rt` is 15; one whose condition fails only moves on (R60, R79; log 5, 23). Both `MRC` reads
complete so. -/
def Obligations.UntrappedMrcCompletes : Prop :=
  ∀ (i : Instr) (reg : SysReg) (cond t : BitVec 4) (s : State), i.access = .mrc reg cond t → s.Wf →
    pcHasRoom s →
      (condHolds s cond = false → exec i s = .next (advance s)) ∧
      (condHolds s cond = true → higherPriority s (readIn s .mrc reg) = none → s.ctx.untrapped = .completes →
        trapped s (readIn s .mrc reg) = false →
          (t ≠ 15#4 → exec i s =
            .next { advance (writeX s (t.setWidth 5) ((Config.freeRead reg s.freeCount).extractLsb' 0 64)) with
              freeCount := s.freeCount + 1 }) ∧
          (t = 15#4 → exec i s = .next { advance s with freeCount := s.freeCount + 1 }))

/-- A read that is not trapped, and for which the rest of the machine raises an exception of its own, a trap to any level
or UNDEFINED, enters that exception (R79; log 5; the target and the EC of UNDEFINED are R160's, log 3). -/
def Obligations.UntrappedReadMayRaiseElsewhere : Prop :=
  ∀ (i : Instr) (k : ReadKind) (reg : SysReg) (s : State) (e : Exn) (u : Target) (ec : BitVec 6),
    readOf i = some (k, reg) → s.Wf → condOk s i = true → higherPriority s (readIn s k reg) = none →
    trapped s (readIn s k reg) = false → s.ctx.untrapped = .raises e →
    e = .trap u ec ∨ (e = .undefined ∧ u = undefinedTarget s ∧ ec = 0x00#6) →
    levelImplemented s.cfg u.el = true → s.pstate.el.num ≤ u.el.num → (u = .el1 → s.ctx.el1A64 = true) →
      exec i s = .next (enterException s u ec (syndromeISS s i.access ec))

/-- Where a read stops: a state whose `NVBase` is not a multiple of 8 is refused (R48, D12), as for every instruction; and a
read that would complete at the top of the address space, or be skipped by its condition there, is refused, since
completing moves the pc on and a wrap is refused (R28, D18; log 16). That a read which is not trapped completes, and
that an `MRC` whose condition fails does, are the model's choices (log 5 and log 23, DESIGN CHOICE). -/
def Obligations.WhereAReadStops : Prop :=
  ∀ (i : Instr) (k : ReadKind) (reg : SysReg) (s : State), readOf i = some (k, reg) → s.cfg.Wf →
    (s.ctx.nvBase.toNat % 8 ≠ 0 → exec i s = .refused .nvBaseMisaligned) ∧
    (s.ctx.nvBase.toNat % 8 = 0 → ¬ pcHasRoom s →
      (condOk s i = false → exec i s = .refused .pcWrap) ∧
      (condOk s i = true → higherPriority s (readIn s k reg) = none → s.ctx.untrapped = .completes →
        trapped s (readIn s k reg) = false → exec i s = .refused .pcWrap))

/-- What a read leaves unchanged: every general register but its destinations, the register, every byte of memory, the
record of accesses, the configuration, the context, the program text and the turns; and either `PSTATE`, the pending value and the exception
registers too, or an exception was entered, and then no general register changed at all (R27, R76, R157). Two clauses are the
model's choice: that a read which is not trapped and completes changes nothing but its destination and the pc, which R79
leaves open (log 5, DESIGN CHOICE; for an `MRC` whose condition fails, log 23), and that an exception's entry is a next
state (log 1, PRESUMED). -/
def Obligations.ReadFrame : Prop :=
  ∀ (i : Instr) (k : ReadKind) (reg : SysReg) (s s' : State), readOf i = some (k, reg) → exec i s = .next s' →
    (∀ n, isDestination i n = false → readX s' n = readX s n) ∧
    s'.hfgrtr = s.hfgrtr ∧ (∀ a, memRead s'.mem a = memRead s.mem a) ∧ s'.events = s.events ∧
    s'.cfg = s.cfg ∧ s'.ctx = s.ctx ∧ s'.text = s.text ∧ s'.rest = s.rest ∧
    ((s'.pstate = s.pstate ∧ s'.pending = s.pending ∧ s'.exc1 = s.exc1 ∧ s'.exc2 = s.exc2 ∧ s'.exc3 = s.exc3) ∨
      ((∀ n, readX s' n = readX s n) ∧ ∃ u ec iss, s' = enterException s u ec iss))

/-! ### The whole machine -/

/-- Every step keeps the invariant: memory in its canonical form and the text in rising order, a legal level, a write
pending only at the levels that can write, hardwired RES0 bits 0, `NVBase` a multiple of 8 and the location off the
program text (R20, R33, R48, R55, R193; log 18, 20, 21). -/
def Obligations.EveryStepKeepsTheInvariant : Prop :=
  ∀ s s' : State, s.Inv → step s = .next s' → s'.Inv

/-- The invariant holds after reset, for every configuration and every value drawn (R187). -/
def Obligations.InvariantHoldsAfterReset : Prop :=
  ∀ (c : Config) (draw : Word), (State.resetWith c draw).Inv

/-- Nothing but a completed `MSR HFGRTR_EL2` at EL2 or EL3 and reset writes the register, and what the `MSR` writes is its
source (R34). -/
def Obligations.OnlyMsrAndResetWriteTheRegister : Prop :=
  ∀ s s' : State, step s = .next s' → s'.hfgrtr ≠ s.hfgrtr →
    (∃ draw, inputNext s = some (.reset draw)) ∨
      (reachesRegister s ∧ s.cfg.haveFGT = true ∧
        ∃ t, instrAt s = some (.msrHfgrtrEl2 t) ∧ s'.hfgrtr = s.cfg.maskRES0 (readX s t))

/-- The only store of this hardware is the redirected `MSR` at EL1: a byte of memory that a step changes is one of the
eight it stores to, or another agent wrote it (R46, R52, R179). That an untrapped read which completes stores nothing is
the model's choice (log 5, DESIGN CHOICE). -/
def Obligations.OnlyTheRedirectedMsrStores : Prop :=
  ∀ (s s' : State) (a : Nat), step s = .next s' → memRead s'.mem a ≠ memRead s.mem a →
    (∃ w b, inputNext s = some (.writeMem w b) ∧ a = w.toNat) ∨
      (redirected s ∧ ¬ outsideNVMem s a ∧ ∃ t, instrAt s = some (.msrHfgrtrEl2 t))

/-- The record grows by the accesses made, in program order, and by nothing else: a step that adds to it ran a redirected
accessor, and adds one event of the PE, of the eight bytes at `NVBase + 0x1B8`: a read with the value its destination
takes, or a write with the value of its source (R52, D22). -/
def Obligations.EventsRecordTheRedirectedAccess : Prop :=
  ∀ s s' : State, step s = .next s' → s'.events = s.events ∨
    (redirected s ∧ ∃ t v d, s'.events = s.events ++
        [{ performer := .pe, address := s.ctx.nvBase + 0x1B8#64, size := 8, value := v, direction := d }] ∧
      (d = .read → instrAt s = some (.mrsHfgrtrEl2 t) ∧ (t ≠ 31#5 → readX s' t = v)) ∧
      (d = .write → instrAt s = some (.msrHfgrtrEl2 t) ∧ v = readX s t))

/-- A general register that a step changes is a destination of the instruction at the pc, or the rest of the machine
wrote it (R27, R157). That an untrapped read which completes writes no register but its destination is the model's choice
(log 5, DESIGN CHOICE). -/
def Obligations.OnlyDestinationsChange : Prop :=
  ∀ (s s' : State) (n : BitVec 5), step s = .next s' → readX s' n ≠ readX s n →
    (∃ v, inputNext s = some (.writeX n v)) ∨ ∃ i, instrAt s = some i ∧ isDestination i n = true

/-- No instruction lowers the level: it falls only by an exception return, a level change or a reset, inputs of the rest of
the machine. And it rises only by an instruction that enters an exception, or by a level change or a reset (R172; that
an exception's entry is a next state is log 1, and the inputs are log 24, DESIGN CHOICE). -/
def Obligations.NoInstructionLowersTheLevel : Prop :=
  ∀ s s' : State, step s = .next s' →
    (s'.pstate.el.num < s.pstate.el.num →
      inputNext s = some .exceptionReturn ∨ (∃ el m pc, inputNext s = some (.levelChange el m pc)) ∨
        ∃ d, inputNext s = some (.reset d)) ∧
    (s.pstate.el.num < s'.pstate.el.num →
      (∃ i u ec iss, instrAt s = some i ∧ s' = enterException (afterTurn s) u ec iss) ∨
        (∃ el m pc, inputNext s = some (.levelChange el m pc)) ∨ ∃ d, inputNext s = some (.reset d))

/-- An input of the rest of the machine that is next completes, but for those no machine gives, which are refused (log 26,
DESIGN CHOICE): a change to an absent level, an exception return at EL0 or to an absent or higher level, and a change of
context after which the state would not be well-formed, by its `NVBase` (R48; log 18) or by the location over the program
text (R55; log 21). -/
def Obligations.WhereAnInputIsRefused : Prop :=
  ∀ (s : State) (e : RestEvent), inputNext s = some e →
    (∀ el m pc, e = .levelChange el m pc → levelImplemented s.cfg el = false →
      step s = .refused .illFormedContext) ∧
    (e = .exceptionReturn → s.pstate.el = .el0 → step s = .refused .illFormedContext) ∧
    (∀ u : Target, e = .exceptionReturn → u.el = s.pstate.el →
      levelImplemented s.cfg (excRegs s u).spsr.el = false ∨ s.pstate.el.num < (excRegs s u).spsr.el.num →
        step s = .refused .illFormedContext) ∧
    (∀ c, e = .setContext c → c.nvBase.toNat % 8 ≠ 0 → step s = .refused .nvBaseMisaligned) ∧
    (∀ c, e = .setContext c → c.nvBase.toNat % 8 = 0 → ¬ nvOffText { s with ctx := c } →
      step s = .refused .nvOverlapsText) ∧
    ((∀ el m pc, e = .levelChange el m pc → levelImplemented s.cfg el = true) →
      (e = .exceptionReturn → ∃ u : Target, u.el = s.pstate.el ∧
        levelImplemented s.cfg (excRegs s u).spsr.el = true ∧ (excRegs s u).spsr.el.num ≤ s.pstate.el.num) →
      (∀ c, e = .setContext c → c.nvBase.toNat % 8 = 0 ∧ nvOffText { s with ctx := c }) → ∃ s', step s = .next s')

/-- A step faults in one case only: the redirected access of an accessor at EL1, when the memory oracle answers abort
(R50, R161, R177). -/
def Obligations.OnlyTheRedirectedAccessFaults : Prop :=
  ∀ (s : State) (f : Fault), step s = .fault f →
    f = .nvMemAbort ∧ redirected s ∧ s.ctx.nvAbort = true ∧
      ∃ t, instrAt s = some (.mrsHfgrtrEl2 t) ∨ instrAt s = some (.msrHfgrtrEl2 t)

/-- No step changes the configuration or the program text (R6, R55). -/
def Obligations.ConfigurationAndTextAreFixed : Prop :=
  ∀ s s' : State, step s = .next s' → s'.cfg = s.cfg ∧ s'.text = s.text

/-- After reset, whatever is drawn, the register holds a value whose RES0 bits are 0 when those are hardwired, and every such
value is drawn by some reset, or any value at all when RES0 bits are storage (R31, R187); execution is at the highest
implemented level (R188) and nothing is pending (log 17, DEDUCED). So it is for the state after reset, and for every
reset during a run, which leaves the configuration. -/
def Obligations.ResetDrawsEveryValue : Prop :=
  (∀ (c : Config) (draw : Word),
    (c.res0Stored = false → (State.resetWith c draw).hfgrtr &&& ~~~c.implMask = 0#64) ∧
      (State.resetWith c draw).pending = none ∧ (State.resetWith c draw).pstate.el = highestEL c) ∧
  (∀ (c : Config) (w : Word), (c.res0Stored = false → w &&& ~~~c.implMask = 0#64) →
    ∃ draw, (State.resetWith c draw).hfgrtr = w) ∧
  (∀ (s : State) (draw : Word), inputNext s = some (.reset draw) → ∃ s', step s = .next s' ∧
    (s.cfg.res0Stored = false → s'.hfgrtr &&& ~~~s.cfg.implMask = 0#64) ∧ s'.pending = none ∧
      s'.pstate.el = highestEL s.cfg ∧ s'.cfg = s.cfg) ∧
  (∀ (s : State) (w : Word), (s.cfg.res0Stored = false → w &&& ~~~s.cfg.implMask = 0#64) →
    ∃ draw s', step { s with rest := .input (.reset draw) :: s.rest } = .next s' ∧ s'.hfgrtr = w)

/-- `State.reset` is the machine after reset under the conventions of spec/95_test_vectors.md: at EL3, with nothing
pending, nothing in memory and no program. Every value is the model's choice (log 7, 13, 14, 15, 20, 21). -/
def Obligations.ResetLeaves : Prop :=
  State.reset.Wf ∧ State.reset.pstate.el = .el3 ∧ State.reset.pending = none ∧ State.reset.mem = [] ∧
    State.reset.text = [] ∧ State.reset.rest = [] ∧ (∀ n, readX State.reset n = 0#64) ∧
    State.reset.hfgrtr = 0#64 ∧ step State.reset = .refused .endOfText
end

