-- ==== Sys2Proof/Laws/State.lean ====
section
/-! SUPPORT. One lemma per field per update, so that no proof unfolds a record update. -/

namespace Sys2Proof.Machine

@[simp] theorem writeHfgrtr_cfg (s : State) (v : Word) : (writeHfgrtr s v).cfg = s.cfg := rfl
@[simp] theorem writeHfgrtr_x (s : State) (v : Word) : (writeHfgrtr s v).x = s.x := rfl
@[simp] theorem writeHfgrtr_pc (s : State) (v : Word) : (writeHfgrtr s v).pc = s.pc := rfl
@[simp] theorem writeHfgrtr_pstate (s : State) (v : Word) : (writeHfgrtr s v).pstate = s.pstate := rfl
@[simp] theorem writeHfgrtr_hfgrtr (s : State) (v : Word) : (writeHfgrtr s v).hfgrtr = s.cfg.maskRES0 v := rfl
@[simp] theorem writeHfgrtr_pending (s : State) (v : Word) : (writeHfgrtr s v).pending = some s.hfgrtr := rfl
@[simp] theorem writeHfgrtr_ctx (s : State) (v : Word) : (writeHfgrtr s v).ctx = s.ctx := rfl
@[simp] theorem writeHfgrtr_exc1 (s : State) (v : Word) : (writeHfgrtr s v).exc1 = s.exc1 := rfl
@[simp] theorem writeHfgrtr_exc2 (s : State) (v : Word) : (writeHfgrtr s v).exc2 = s.exc2 := rfl
@[simp] theorem writeHfgrtr_exc3 (s : State) (v : Word) : (writeHfgrtr s v).exc3 = s.exc3 := rfl
@[simp] theorem writeHfgrtr_mem (s : State) (v : Word) : (writeHfgrtr s v).mem = s.mem := rfl
@[simp] theorem writeHfgrtr_text (s : State) (v : Word) : (writeHfgrtr s v).text = s.text := rfl
@[simp] theorem writeHfgrtr_events (s : State) (v : Word) : (writeHfgrtr s v).events = s.events := rfl
@[simp] theorem writeHfgrtr_rest (s : State) (v : Word) : (writeHfgrtr s v).rest = s.rest := rfl
@[simp] theorem writeHfgrtr_freeCount (s : State) (v : Word) : (writeHfgrtr s v).freeCount = s.freeCount := rfl

@[simp] theorem contextSync_cfg (s : State) : (contextSync s).cfg = s.cfg := rfl
@[simp] theorem contextSync_x (s : State) : (contextSync s).x = s.x := rfl
@[simp] theorem contextSync_pc (s : State) : (contextSync s).pc = s.pc := rfl
@[simp] theorem contextSync_pstate (s : State) : (contextSync s).pstate = s.pstate := rfl
@[simp] theorem contextSync_hfgrtr (s : State) : (contextSync s).hfgrtr = s.hfgrtr := rfl
@[simp] theorem contextSync_pending (s : State) : (contextSync s).pending = none := rfl
@[simp] theorem contextSync_ctx (s : State) : (contextSync s).ctx = s.ctx := rfl
@[simp] theorem contextSync_exc1 (s : State) : (contextSync s).exc1 = s.exc1 := rfl
@[simp] theorem contextSync_exc2 (s : State) : (contextSync s).exc2 = s.exc2 := rfl
@[simp] theorem contextSync_exc3 (s : State) : (contextSync s).exc3 = s.exc3 := rfl
@[simp] theorem contextSync_mem (s : State) : (contextSync s).mem = s.mem := rfl
@[simp] theorem contextSync_text (s : State) : (contextSync s).text = s.text := rfl
@[simp] theorem contextSync_events (s : State) : (contextSync s).events = s.events := rfl
@[simp] theorem contextSync_rest (s : State) : (contextSync s).rest = s.rest := rfl
@[simp] theorem contextSync_freeCount (s : State) : (contextSync s).freeCount = s.freeCount := rfl

@[simp] theorem nvWrite_cfg (s : State) (v : Word) : (nvWrite s v).cfg = s.cfg := rfl
@[simp] theorem nvWrite_x (s : State) (v : Word) : (nvWrite s v).x = s.x := rfl
@[simp] theorem nvWrite_pc (s : State) (v : Word) : (nvWrite s v).pc = s.pc := rfl
@[simp] theorem nvWrite_pstate (s : State) (v : Word) : (nvWrite s v).pstate = s.pstate := rfl
@[simp] theorem nvWrite_hfgrtr (s : State) (v : Word) : (nvWrite s v).hfgrtr = s.hfgrtr := rfl
@[simp] theorem nvWrite_pending (s : State) (v : Word) : (nvWrite s v).pending = s.pending := rfl
@[simp] theorem nvWrite_ctx (s : State) (v : Word) : (nvWrite s v).ctx = s.ctx := rfl
@[simp] theorem nvWrite_exc1 (s : State) (v : Word) : (nvWrite s v).exc1 = s.exc1 := rfl
@[simp] theorem nvWrite_exc2 (s : State) (v : Word) : (nvWrite s v).exc2 = s.exc2 := rfl
@[simp] theorem nvWrite_exc3 (s : State) (v : Word) : (nvWrite s v).exc3 = s.exc3 := rfl
@[simp] theorem nvWrite_mem (s : State) (v : Word) : (nvWrite s v).mem = memWriteBytes s.mem (nvAddr s).toNat (bytesOf s.ctx.nvBigEndian v) := rfl
@[simp] theorem nvWrite_text (s : State) (v : Word) : (nvWrite s v).text = s.text := rfl
@[simp] theorem nvWrite_events (s : State) (v : Word) : (nvWrite s v).events = s.events := rfl
@[simp] theorem nvWrite_rest (s : State) (v : Word) : (nvWrite s v).rest = s.rest := rfl
@[simp] theorem nvWrite_freeCount (s : State) (v : Word) : (nvWrite s v).freeCount = s.freeCount := rfl

@[simp] theorem recordNV_cfg (s : State) (d : Direction) (v : Word) : (recordNV s d v).cfg = s.cfg := rfl
@[simp] theorem recordNV_x (s : State) (d : Direction) (v : Word) : (recordNV s d v).x = s.x := rfl
@[simp] theorem recordNV_pc (s : State) (d : Direction) (v : Word) : (recordNV s d v).pc = s.pc := rfl
@[simp] theorem recordNV_pstate (s : State) (d : Direction) (v : Word) : (recordNV s d v).pstate = s.pstate := rfl
@[simp] theorem recordNV_hfgrtr (s : State) (d : Direction) (v : Word) : (recordNV s d v).hfgrtr = s.hfgrtr := rfl
@[simp] theorem recordNV_pending (s : State) (d : Direction) (v : Word) : (recordNV s d v).pending = s.pending := rfl
@[simp] theorem recordNV_ctx (s : State) (d : Direction) (v : Word) : (recordNV s d v).ctx = s.ctx := rfl
@[simp] theorem recordNV_exc1 (s : State) (d : Direction) (v : Word) : (recordNV s d v).exc1 = s.exc1 := rfl
@[simp] theorem recordNV_exc2 (s : State) (d : Direction) (v : Word) : (recordNV s d v).exc2 = s.exc2 := rfl
@[simp] theorem recordNV_exc3 (s : State) (d : Direction) (v : Word) : (recordNV s d v).exc3 = s.exc3 := rfl
@[simp] theorem recordNV_mem (s : State) (d : Direction) (v : Word) : (recordNV s d v).mem = s.mem := rfl
@[simp] theorem recordNV_text (s : State) (d : Direction) (v : Word) : (recordNV s d v).text = s.text := rfl
@[simp] theorem recordNV_events (s : State) (d : Direction) (v : Word) : (recordNV s d v).events = s.events ++ [{ performer := .pe, address := nvAddr s, size := 8, value := v, direction := d }] := rfl
@[simp] theorem recordNV_rest (s : State) (d : Direction) (v : Word) : (recordNV s d v).rest = s.rest := rfl
@[simp] theorem recordNV_freeCount (s : State) (d : Direction) (v : Word) : (recordNV s d v).freeCount = s.freeCount := rfl

@[simp] theorem afterTurn_cfg (s : State) : (afterTurn s).cfg = s.cfg := rfl
@[simp] theorem afterTurn_x (s : State) : (afterTurn s).x = s.x := rfl
@[simp] theorem afterTurn_pc (s : State) : (afterTurn s).pc = s.pc := rfl
@[simp] theorem afterTurn_pstate (s : State) : (afterTurn s).pstate = s.pstate := rfl
@[simp] theorem afterTurn_hfgrtr (s : State) : (afterTurn s).hfgrtr = s.hfgrtr := rfl
@[simp] theorem afterTurn_pending (s : State) : (afterTurn s).pending = s.pending := rfl
@[simp] theorem afterTurn_ctx (s : State) : (afterTurn s).ctx = s.ctx := rfl
@[simp] theorem afterTurn_exc1 (s : State) : (afterTurn s).exc1 = s.exc1 := rfl
@[simp] theorem afterTurn_exc2 (s : State) : (afterTurn s).exc2 = s.exc2 := rfl
@[simp] theorem afterTurn_exc3 (s : State) : (afterTurn s).exc3 = s.exc3 := rfl
@[simp] theorem afterTurn_mem (s : State) : (afterTurn s).mem = s.mem := rfl
@[simp] theorem afterTurn_text (s : State) : (afterTurn s).text = s.text := rfl
@[simp] theorem afterTurn_events (s : State) : (afterTurn s).events = s.events := rfl
@[simp] theorem afterTurn_rest (s : State) : (afterTurn s).rest = s.rest.tail := rfl
@[simp] theorem afterTurn_freeCount (s : State) : (afterTurn s).freeCount = s.freeCount := rfl

@[simp] theorem writeX_cfg (s : State) (t : BitVec 5) (v : Word) : (writeX s t v).cfg = s.cfg := by
  unfold writeX; split <;> rfl
@[simp] theorem writeX_pc (s : State) (t : BitVec 5) (v : Word) : (writeX s t v).pc = s.pc := by
  unfold writeX; split <;> rfl
@[simp] theorem writeX_pstate (s : State) (t : BitVec 5) (v : Word) : (writeX s t v).pstate = s.pstate := by
  unfold writeX; split <;> rfl
@[simp] theorem writeX_hfgrtr (s : State) (t : BitVec 5) (v : Word) : (writeX s t v).hfgrtr = s.hfgrtr := by
  unfold writeX; split <;> rfl
@[simp] theorem writeX_pending (s : State) (t : BitVec 5) (v : Word) : (writeX s t v).pending = s.pending := by
  unfold writeX; split <;> rfl
@[simp] theorem writeX_ctx (s : State) (t : BitVec 5) (v : Word) : (writeX s t v).ctx = s.ctx := by
  unfold writeX; split <;> rfl
@[simp] theorem writeX_exc1 (s : State) (t : BitVec 5) (v : Word) : (writeX s t v).exc1 = s.exc1 := by
  unfold writeX; split <;> rfl
@[simp] theorem writeX_exc2 (s : State) (t : BitVec 5) (v : Word) : (writeX s t v).exc2 = s.exc2 := by
  unfold writeX; split <;> rfl
@[simp] theorem writeX_exc3 (s : State) (t : BitVec 5) (v : Word) : (writeX s t v).exc3 = s.exc3 := by
  unfold writeX; split <;> rfl
@[simp] theorem writeX_mem (s : State) (t : BitVec 5) (v : Word) : (writeX s t v).mem = s.mem := by
  unfold writeX; split <;> rfl
@[simp] theorem writeX_text (s : State) (t : BitVec 5) (v : Word) : (writeX s t v).text = s.text := by
  unfold writeX; split <;> rfl
@[simp] theorem writeX_events (s : State) (t : BitVec 5) (v : Word) : (writeX s t v).events = s.events := by
  unfold writeX; split <;> rfl
@[simp] theorem writeX_rest (s : State) (t : BitVec 5) (v : Word) : (writeX s t v).rest = s.rest := by
  unfold writeX; split <;> rfl
@[simp] theorem writeX_freeCount (s : State) (t : BitVec 5) (v : Word) : (writeX s t v).freeCount = s.freeCount := by
  unfold writeX; split <;> rfl

@[simp] theorem writeXPair_cfg (s : State) (t : BitVec 5) (v : BitVec 128) : (writeXPair s t v).cfg = s.cfg := by
  simp [writeXPair]
@[simp] theorem writeXPair_pc (s : State) (t : BitVec 5) (v : BitVec 128) : (writeXPair s t v).pc = s.pc := by
  simp [writeXPair]
@[simp] theorem writeXPair_pstate (s : State) (t : BitVec 5) (v : BitVec 128) : (writeXPair s t v).pstate = s.pstate := by
  simp [writeXPair]
@[simp] theorem writeXPair_hfgrtr (s : State) (t : BitVec 5) (v : BitVec 128) : (writeXPair s t v).hfgrtr = s.hfgrtr := by
  simp [writeXPair]
@[simp] theorem writeXPair_pending (s : State) (t : BitVec 5) (v : BitVec 128) : (writeXPair s t v).pending = s.pending := by
  simp [writeXPair]
@[simp] theorem writeXPair_ctx (s : State) (t : BitVec 5) (v : BitVec 128) : (writeXPair s t v).ctx = s.ctx := by
  simp [writeXPair]
@[simp] theorem writeXPair_exc1 (s : State) (t : BitVec 5) (v : BitVec 128) : (writeXPair s t v).exc1 = s.exc1 := by
  simp [writeXPair]
@[simp] theorem writeXPair_exc2 (s : State) (t : BitVec 5) (v : BitVec 128) : (writeXPair s t v).exc2 = s.exc2 := by
  simp [writeXPair]
@[simp] theorem writeXPair_exc3 (s : State) (t : BitVec 5) (v : BitVec 128) : (writeXPair s t v).exc3 = s.exc3 := by
  simp [writeXPair]
@[simp] theorem writeXPair_mem (s : State) (t : BitVec 5) (v : BitVec 128) : (writeXPair s t v).mem = s.mem := by
  simp [writeXPair]
@[simp] theorem writeXPair_text (s : State) (t : BitVec 5) (v : BitVec 128) : (writeXPair s t v).text = s.text := by
  simp [writeXPair]
@[simp] theorem writeXPair_events (s : State) (t : BitVec 5) (v : BitVec 128) : (writeXPair s t v).events = s.events := by
  simp [writeXPair]
@[simp] theorem writeXPair_rest (s : State) (t : BitVec 5) (v : BitVec 128) : (writeXPair s t v).rest = s.rest := by
  simp [writeXPair]
@[simp] theorem writeXPair_freeCount (s : State) (t : BitVec 5) (v : BitVec 128) : (writeXPair s t v).freeCount = s.freeCount := by
  simp [writeXPair]

@[simp] theorem writeR_cfg (s : State) (t : BitVec 4) (v : Word) : (writeR s t v).cfg = s.cfg := by
  unfold writeR; split <;> simp
@[simp] theorem writeR_pc (s : State) (t : BitVec 4) (v : Word) : (writeR s t v).pc = s.pc := by
  unfold writeR; split <;> simp
@[simp] theorem writeR_pstate (s : State) (t : BitVec 4) (v : Word) : (writeR s t v).pstate = s.pstate := by
  unfold writeR; split <;> simp
@[simp] theorem writeR_hfgrtr (s : State) (t : BitVec 4) (v : Word) : (writeR s t v).hfgrtr = s.hfgrtr := by
  unfold writeR; split <;> simp
@[simp] theorem writeR_pending (s : State) (t : BitVec 4) (v : Word) : (writeR s t v).pending = s.pending := by
  unfold writeR; split <;> simp
@[simp] theorem writeR_ctx (s : State) (t : BitVec 4) (v : Word) : (writeR s t v).ctx = s.ctx := by
  unfold writeR; split <;> simp
@[simp] theorem writeR_exc1 (s : State) (t : BitVec 4) (v : Word) : (writeR s t v).exc1 = s.exc1 := by
  unfold writeR; split <;> simp
@[simp] theorem writeR_exc2 (s : State) (t : BitVec 4) (v : Word) : (writeR s t v).exc2 = s.exc2 := by
  unfold writeR; split <;> simp
@[simp] theorem writeR_exc3 (s : State) (t : BitVec 4) (v : Word) : (writeR s t v).exc3 = s.exc3 := by
  unfold writeR; split <;> simp
@[simp] theorem writeR_mem (s : State) (t : BitVec 4) (v : Word) : (writeR s t v).mem = s.mem := by
  unfold writeR; split <;> simp
@[simp] theorem writeR_text (s : State) (t : BitVec 4) (v : Word) : (writeR s t v).text = s.text := by
  unfold writeR; split <;> simp
@[simp] theorem writeR_events (s : State) (t : BitVec 4) (v : Word) : (writeR s t v).events = s.events := by
  unfold writeR; split <;> simp
@[simp] theorem writeR_rest (s : State) (t : BitVec 4) (v : Word) : (writeR s t v).rest = s.rest := by
  unfold writeR; split <;> simp
@[simp] theorem writeR_freeCount (s : State) (t : BitVec 4) (v : Word) : (writeR s t v).freeCount = s.freeCount := by
  unfold writeR; split <;> simp

@[simp] theorem setExcRegs_cfg (s : State) (t : Target) (r : ExcRegs) : (setExcRegs s t r).cfg = s.cfg := by
  cases t <;> rfl
@[simp] theorem setExcRegs_x (s : State) (t : Target) (r : ExcRegs) : (setExcRegs s t r).x = s.x := by
  cases t <;> rfl
@[simp] theorem setExcRegs_pc (s : State) (t : Target) (r : ExcRegs) : (setExcRegs s t r).pc = s.pc := by
  cases t <;> rfl
@[simp] theorem setExcRegs_pstate (s : State) (t : Target) (r : ExcRegs) : (setExcRegs s t r).pstate = s.pstate := by
  cases t <;> rfl
@[simp] theorem setExcRegs_hfgrtr (s : State) (t : Target) (r : ExcRegs) : (setExcRegs s t r).hfgrtr = s.hfgrtr := by
  cases t <;> rfl
@[simp] theorem setExcRegs_pending (s : State) (t : Target) (r : ExcRegs) : (setExcRegs s t r).pending = s.pending := by
  cases t <;> rfl
@[simp] theorem setExcRegs_ctx (s : State) (t : Target) (r : ExcRegs) : (setExcRegs s t r).ctx = s.ctx := by
  cases t <;> rfl
@[simp] theorem setExcRegs_mem (s : State) (t : Target) (r : ExcRegs) : (setExcRegs s t r).mem = s.mem := by
  cases t <;> rfl
@[simp] theorem setExcRegs_text (s : State) (t : Target) (r : ExcRegs) : (setExcRegs s t r).text = s.text := by
  cases t <;> rfl
@[simp] theorem setExcRegs_events (s : State) (t : Target) (r : ExcRegs) : (setExcRegs s t r).events = s.events := by
  cases t <;> rfl
@[simp] theorem setExcRegs_rest (s : State) (t : Target) (r : ExcRegs) : (setExcRegs s t r).rest = s.rest := by
  cases t <;> rfl
@[simp] theorem setExcRegs_freeCount (s : State) (t : Target) (r : ExcRegs) : (setExcRegs s t r).freeCount = s.freeCount := by
  cases t <;> rfl

@[simp] theorem completeRead_cfg (s : State) (a : Access) : (completeRead s a).cfg = s.cfg := by
  cases a <;> simp [completeRead]
@[simp] theorem completeRead_pc (s : State) (a : Access) : (completeRead s a).pc = s.pc := by
  cases a <;> simp [completeRead]
@[simp] theorem completeRead_pstate (s : State) (a : Access) : (completeRead s a).pstate = s.pstate := by
  cases a <;> simp [completeRead]
@[simp] theorem completeRead_hfgrtr (s : State) (a : Access) : (completeRead s a).hfgrtr = s.hfgrtr := by
  cases a <;> simp [completeRead]
@[simp] theorem completeRead_pending (s : State) (a : Access) : (completeRead s a).pending = s.pending := by
  cases a <;> simp [completeRead]
@[simp] theorem completeRead_ctx (s : State) (a : Access) : (completeRead s a).ctx = s.ctx := by
  cases a <;> simp [completeRead]
@[simp] theorem completeRead_exc1 (s : State) (a : Access) : (completeRead s a).exc1 = s.exc1 := by
  cases a <;> simp [completeRead]
@[simp] theorem completeRead_exc2 (s : State) (a : Access) : (completeRead s a).exc2 = s.exc2 := by
  cases a <;> simp [completeRead]
@[simp] theorem completeRead_exc3 (s : State) (a : Access) : (completeRead s a).exc3 = s.exc3 := by
  cases a <;> simp [completeRead]
@[simp] theorem completeRead_mem (s : State) (a : Access) : (completeRead s a).mem = s.mem := by
  cases a <;> simp [completeRead]
@[simp] theorem completeRead_text (s : State) (a : Access) : (completeRead s a).text = s.text := by
  cases a <;> simp [completeRead]
@[simp] theorem completeRead_events (s : State) (a : Access) : (completeRead s a).events = s.events := by
  cases a <;> simp [completeRead]
@[simp] theorem completeRead_rest (s : State) (a : Access) : (completeRead s a).rest = s.rest := by
  cases a <;> simp [completeRead]

@[simp] theorem enterException_cfg (s : State) (t : Target) (ec : BitVec 6) (iss : BitVec 25) : (enterException s t ec iss).cfg = s.cfg := by
  cases t <;> rfl
@[simp] theorem enterException_x (s : State) (t : Target) (ec : BitVec 6) (iss : BitVec 25) : (enterException s t ec iss).x = s.x := by
  cases t <;> rfl
@[simp] theorem enterException_pc (s : State) (t : Target) (ec : BitVec 6) (iss : BitVec 25) : (enterException s t ec iss).pc = (excRegs s t).vbar + vectorOffset s t := by
  cases t <;> rfl
@[simp] theorem enterException_pstate (s : State) (t : Target) (ec : BitVec 6) (iss : BitVec 25) : (enterException s t ec iss).pstate = PState.mk t.el 0b1111#4 true .a64 := by
  cases t <;> rfl
@[simp] theorem enterException_hfgrtr (s : State) (t : Target) (ec : BitVec 6) (iss : BitVec 25) : (enterException s t ec iss).hfgrtr = s.hfgrtr := by
  cases t <;> rfl
@[simp] theorem enterException_pending (s : State) (t : Target) (ec : BitVec 6) (iss : BitVec 25) : (enterException s t ec iss).pending = none := by
  cases t <;> rfl
@[simp] theorem enterException_ctx (s : State) (t : Target) (ec : BitVec 6) (iss : BitVec 25) : (enterException s t ec iss).ctx = s.ctx := by
  cases t <;> rfl
@[simp] theorem enterException_mem (s : State) (t : Target) (ec : BitVec 6) (iss : BitVec 25) : (enterException s t ec iss).mem = s.mem := by
  cases t <;> rfl
@[simp] theorem enterException_text (s : State) (t : Target) (ec : BitVec 6) (iss : BitVec 25) : (enterException s t ec iss).text = s.text := by
  cases t <;> rfl
@[simp] theorem enterException_events (s : State) (t : Target) (ec : BitVec 6) (iss : BitVec 25) : (enterException s t ec iss).events = s.events := by
  cases t <;> rfl
@[simp] theorem enterException_rest (s : State) (t : Target) (ec : BitVec 6) (iss : BitVec 25) : (enterException s t ec iss).rest = s.rest := by
  cases t <;> rfl
@[simp] theorem enterException_freeCount (s : State) (t : Target) (ec : BitVec 6) (iss : BitVec 25) : (enterException s t ec iss).freeCount = s.freeCount + 1 := by
  cases t <;> rfl

@[simp] theorem advance_cfg (s : State) : (advance s).cfg = s.cfg := rfl
@[simp] theorem advance_x (s : State) : (advance s).x = s.x := rfl
@[simp] theorem advance_pc (s : State) : (advance s).pc = s.pc + 4#64 := rfl
@[simp] theorem advance_pstate (s : State) : (advance s).pstate = s.pstate := rfl
@[simp] theorem advance_hfgrtr (s : State) : (advance s).hfgrtr = s.hfgrtr := rfl
@[simp] theorem advance_pending (s : State) : (advance s).pending = s.pending := rfl
@[simp] theorem advance_ctx (s : State) : (advance s).ctx = s.ctx := rfl
@[simp] theorem advance_exc1 (s : State) : (advance s).exc1 = s.exc1 := rfl
@[simp] theorem advance_exc2 (s : State) : (advance s).exc2 = s.exc2 := rfl
@[simp] theorem advance_exc3 (s : State) : (advance s).exc3 = s.exc3 := rfl
@[simp] theorem advance_mem (s : State) : (advance s).mem = s.mem := rfl
@[simp] theorem advance_text (s : State) : (advance s).text = s.text := rfl
@[simp] theorem advance_events (s : State) : (advance s).events = s.events := rfl
@[simp] theorem advance_rest (s : State) : (advance s).rest = s.rest := rfl
@[simp] theorem advance_freeCount (s : State) : (advance s).freeCount = s.freeCount := rfl

@[simp] theorem resetEvent_cfg (s : State) (draw : Word) : (resetEvent s draw).cfg = s.cfg := rfl
@[simp] theorem resetEvent_x (s : State) (draw : Word) : (resetEvent s draw).x = s.x := rfl
@[simp] theorem resetEvent_pc (s : State) (draw : Word) : (resetEvent s draw).pc = s.cfg.resetPC := rfl
@[simp] theorem resetEvent_pstate (s : State) (draw : Word) : (resetEvent s draw).pstate = resetPState s.cfg := rfl
@[simp] theorem resetEvent_hfgrtr (s : State) (draw : Word) : (resetEvent s draw).hfgrtr = s.cfg.maskRES0 draw := rfl
@[simp] theorem resetEvent_pending (s : State) (draw : Word) : (resetEvent s draw).pending = none := rfl
@[simp] theorem resetEvent_ctx (s : State) (draw : Word) : (resetEvent s draw).ctx = s.ctx := rfl
@[simp] theorem resetEvent_exc1 (s : State) (draw : Word) : (resetEvent s draw).exc1 = s.exc1 := rfl
@[simp] theorem resetEvent_exc2 (s : State) (draw : Word) : (resetEvent s draw).exc2 = s.exc2 := rfl
@[simp] theorem resetEvent_exc3 (s : State) (draw : Word) : (resetEvent s draw).exc3 = s.exc3 := rfl
@[simp] theorem resetEvent_mem (s : State) (draw : Word) : (resetEvent s draw).mem = s.mem := rfl
@[simp] theorem resetEvent_text (s : State) (draw : Word) : (resetEvent s draw).text = s.text := rfl
@[simp] theorem resetEvent_events (s : State) (draw : Word) : (resetEvent s draw).events = s.events := rfl
@[simp] theorem resetEvent_rest (s : State) (draw : Word) : (resetEvent s draw).rest = s.rest := rfl
@[simp] theorem resetEvent_freeCount (s : State) (draw : Word) : (resetEvent s draw).freeCount = s.freeCount := rfl

@[simp] theorem placeWord_cfg (s : State) (w : InstrWord) : (placeWord s w).cfg = s.cfg := rfl
@[simp] theorem placeWord_x (s : State) (w : InstrWord) : (placeWord s w).x = s.x := rfl
@[simp] theorem placeWord_pc (s : State) (w : InstrWord) : (placeWord s w).pc = s.pc := rfl
@[simp] theorem placeWord_pstate (s : State) (w : InstrWord) : (placeWord s w).pstate = PState.mk s.pstate.el s.pstate.daif s.pstate.sp (tableWordISet w) := rfl
@[simp] theorem placeWord_hfgrtr (s : State) (w : InstrWord) : (placeWord s w).hfgrtr = s.hfgrtr := rfl
@[simp] theorem placeWord_pending (s : State) (w : InstrWord) : (placeWord s w).pending = s.pending := rfl
@[simp] theorem placeWord_ctx (s : State) (w : InstrWord) : (placeWord s w).ctx = s.ctx := rfl
@[simp] theorem placeWord_exc1 (s : State) (w : InstrWord) : (placeWord s w).exc1 = s.exc1 := rfl
@[simp] theorem placeWord_exc2 (s : State) (w : InstrWord) : (placeWord s w).exc2 = s.exc2 := rfl
@[simp] theorem placeWord_exc3 (s : State) (w : InstrWord) : (placeWord s w).exc3 = s.exc3 := rfl
@[simp] theorem placeWord_mem (s : State) (w : InstrWord) : (placeWord s w).mem = s.mem := rfl
@[simp] theorem placeWord_text (s : State) (w : InstrWord) : (placeWord s w).text = placeBytes s.text s.pc.toNat (leBytes w) := rfl
@[simp] theorem placeWord_events (s : State) (w : InstrWord) : (placeWord s w).events = s.events := rfl
@[simp] theorem placeWord_rest (s : State) (w : InstrWord) : (placeWord s w).rest = [] := rfl
@[simp] theorem placeWord_freeCount (s : State) (w : InstrWord) : (placeWord s w).freeCount = s.freeCount := rfl

@[simp] theorem excRegs_setExcRegs (s : State) (t : Target) (r : ExcRegs) : excRegs (setExcRegs s t r) t = r := by
  cases t <;> rfl

theorem excRegs_setExcRegs_of_ne (s : State) {t u : Target} (r : ExcRegs) (h : u ≠ t) :
    excRegs (setExcRegs s t r) u = excRegs s u := by
  cases t <;> cases u <;> first | rfl | exact absurd rfl h

/-- The exception registers of the level entered (R162, R163). -/
@[simp] theorem excRegs_enterException (s : State) (t : Target) (ec : BitVec 6) (iss : BitVec 25) :
    excRegs (enterException s t ec iss) t =
      { elr := s.pc, spsr := s.pstate, esr := esrValue (esrHigh s ec) ec iss, vbar := (excRegs s t).vbar } := by
  cases t <;> rfl

/-- Entry leaves the exception registers of every other level. -/
theorem excRegs_enterException_of_ne (s : State) {t u : Target} (ec : BitVec 6) (iss : BitVec 25) (h : u ≠ t) :
    excRegs (enterException s t ec iss) u = excRegs s u := by
  cases t <;> cases u <;> first | rfl | exact absurd rfl h

/-- A completed read counts one free value more, an accessor none. -/
theorem completeRead_freeCount (s : State) (a : Access) :
    (completeRead s a).freeCount = s.freeCount ∨ (completeRead s a).freeCount = s.freeCount + 1 := by
  cases a <;> simp [completeRead]

end Sys2Proof.Machine
end

