-- ==== Sys2Proof/Laws/Memory.lean ====
section
/-! SUPPORT. Memory: reading after writing, and the canonical form that every operation keeps. -/

namespace Sys2Proof.Machine

@[simp] theorem lookupCell_nil (a : Nat) : lookupCell a [] = none := rfl

theorem lookupCell_cons (a : Nat) (p : Host.Cell) (m : List Host.Cell) :
    lookupCell a (p :: m) = if p.1 = a then some p.2 else lookupCell a m := rfl

@[simp] theorem lookupCell_insertCell_same (a : Nat) (b : Byte) (m : List Host.Cell) :
    lookupCell a (insertCell a b m) = some b := by
  induction m with
  | nil => simp [insertCell, lookupCell]
  | cons p m ih =>
    unfold insertCell
    split_ifs with h1 h2
    · simp [lookupCell]
    · simp [lookupCell]
    · simp [lookupCell, Ne.symm h2, ih]

theorem lookupCell_insertCell_ne {a c : Nat} (b : Byte) (m : List Host.Cell) (h : c ≠ a) :
    lookupCell c (insertCell a b m) = lookupCell c m := by
  induction m with
  | nil => simp [insertCell, lookupCell, Ne.symm h]
  | cons p m ih =>
    unfold insertCell
    split_ifs with h1 h2
    · simp [lookupCell, Ne.symm h]
    · have : p.1 ≠ c := fun e => h (e.symm.trans h2.symm)
      simp [lookupCell, this, Ne.symm h]
    · by_cases hc : p.1 = c <;> simp [lookupCell, hc, ih]

@[simp] theorem lookupCell_eraseCell_same (a : Nat) (m : List Host.Cell) :
    lookupCell a (eraseCell a m) = none := by
  induction m with
  | nil => rfl
  | cons p m ih =>
    by_cases h : p.1 = a
    · simpa [eraseCell, h] using ih
    · simpa [eraseCell, h, lookupCell] using ih

theorem lookupCell_eraseCell_ne {a c : Nat} (m : List Host.Cell) (h : c ≠ a) :
    lookupCell c (eraseCell a m) = lookupCell c m := by
  induction m with
  | nil => rfl
  | cons p m ih =>
    by_cases hp : p.1 = a
    · have hc : p.1 ≠ c := fun e => h (e.symm.trans hp)
      have : lookupCell c (p :: m) = lookupCell c m := by simp [lookupCell, hc]
      rw [this, ← ih]
      simp [eraseCell, hp]
    · have : eraseCell a (p :: m) = p :: eraseCell a m := by simp [eraseCell, hp]
      rw [this, lookupCell_cons, lookupCell_cons, ih]

/-- A byte written is the byte read. -/
@[simp] theorem memRead_memWrite_same (m : List Host.Cell) (a : Nat) (b : Byte) :
    memRead (memWrite m a b) a = b := by
  unfold memRead memWrite
  split_ifs with h <;> simp [h]

/-- A write leaves every other byte. -/
theorem memRead_memWrite_ne (m : List Host.Cell) {a c : Nat} (b : Byte) (h : c ≠ a) :
    memRead (memWrite m a b) c = memRead m c := by
  unfold memRead memWrite
  split_ifs
  · rw [lookupCell_eraseCell_ne m h]
  · rw [lookupCell_insertCell_ne b m h]

/-- A write of several bytes leaves every byte outside them. -/
theorem memRead_memWriteBytes_outside (m : List Host.Cell) (a c : Nat) (bs : List Byte)
    (h : c < a ∨ a + bs.length ≤ c) : memRead (memWriteBytes m a bs) c = memRead m c := by
  induction bs generalizing m a with
  | nil => rfl
  | cons b bs ih =>
    simp only [List.length_cons] at h
    rw [memWriteBytes, ih _ _ (by omega), memRead_memWrite_ne _ _ (by omega)]

/-- Each of several bytes written is the byte read at its address. -/
theorem memRead_memWriteBytes_inside (m : List Host.Cell) (a i : Nat) (bs : List Byte) (h : i < bs.length) :
    memRead (memWriteBytes m a bs) (a + i) = bs[i] := by
  induction bs generalizing m a i with
  | nil => simp at h
  | cons b bs ih =>
    cases i with
    | zero =>
      rw [memWriteBytes, memRead_memWriteBytes_outside _ _ _ _ (by omega)]
      simp
    | succ i =>
      have := ih (memWrite m a b) (a + 1) i (by simpa using h)
      rw [memWriteBytes, show a + (i + 1) = a + 1 + i by omega, this]
      simp

theorem mem_insertCell {a : Nat} {b : Byte} {m : List Host.Cell} {p : Host.Cell}
    (h : p ∈ insertCell a b m) : p = (a, b) ∨ p ∈ m := by
  induction m with
  | nil => simpa [insertCell] using h
  | cons q m ih =>
    unfold insertCell at h
    split_ifs at h
    · simpa using h
    · rcases List.mem_cons.1 h with h | h
      · exact .inl h
      · exact .inr (List.mem_cons_of_mem _ h)
    · rcases List.mem_cons.1 h with h | h
      · exact .inr (h ▸ List.mem_cons_self ..)
      · exact (ih h).imp id (List.mem_cons_of_mem _)

/-- Listing a byte keeps the addresses rising. -/
theorem cellsRising_insertCell {a : Nat} {m : List Host.Cell} (b : Byte) (ha : a < 2 ^ 64)
    (h : cellsRising m) : cellsRising (insertCell a b m) := by
  refine ⟨?_, fun p hp => (mem_insertCell hp).elim (fun e => e ▸ ha) (h.2 p)⟩
  have hs := h.1
  clear h
  induction m with
  | nil => simp [insertCell]
  | cons q m ih =>
    simp only [List.map_cons, List.pairwise_cons] at hs
    unfold insertCell
    split_ifs with h1 h2
    · simp only [List.map_cons, List.pairwise_cons]
      refine ⟨fun c hc => ?_, hs⟩
      rcases List.mem_cons.1 hc with rfl | hc
      · exact h1
      · exact h1.trans (hs.1 c hc)
    · simp only [List.map_cons, List.pairwise_cons]
      exact ⟨fun c hc => h2 ▸ hs.1 c hc, hs.2⟩
    · simp only [List.map_cons, List.pairwise_cons]
      refine ⟨fun c hc => ?_, ih hs.2⟩
      obtain ⟨p, hp, rfl⟩ := List.mem_map.1 hc
      rcases mem_insertCell hp with rfl | hp
      · simp only at h1 h2 ⊢; omega
      · exact hs.1 _ (List.mem_map_of_mem hp)

/-- Listing nothing at an address keeps the addresses rising. -/
theorem cellsRising_eraseCell {m : List Host.Cell} (a : Nat) (h : cellsRising m) : cellsRising (eraseCell a m) :=
  ⟨h.1.sublist (List.filter_sublist.map _), fun p hp => h.2 p (List.mem_of_mem_filter hp)⟩

/-- A write of a byte keeps the canonical form of memory. -/
theorem memWrite_wf {m : List Host.Cell} {a : Nat} (b : Byte) (ha : a < 2 ^ 64) (h : Memory.wf m) :
    Memory.wf (memWrite m a b) := by
  unfold memWrite
  split_ifs with hb
  · exact ⟨cellsRising_eraseCell a h.1, fun p hp => h.2 p (List.mem_of_mem_filter hp)⟩
  · exact ⟨cellsRising_insertCell b ha h.1, fun p hp => (mem_insertCell hp).elim (fun e => e ▸ hb) (h.2 p)⟩

/-- A write of several bytes keeps the canonical form of memory. -/
theorem memWriteBytes_wf {m : List Host.Cell} {a : Nat} (bs : List Byte) (ha : a + bs.length ≤ 2 ^ 64)
    (h : Memory.wf m) : Memory.wf (memWriteBytes m a bs) := by
  induction bs generalizing m a with
  | nil => exact h
  | cons b bs ih =>
    simp only [List.length_cons] at ha
    exact ih (by omega) (memWrite_wf b (by omega) h)

@[simp] theorem bytesOf_length (big : Bool) (v : Word) : (bytesOf big v).length = 8 := rfl

/-- With `NVBase` aligned, the location is aligned and its eight bytes do not wrap (R48). -/
theorem nvAddr_room {s : State} (h : nvAligned s = true) :
    (nvAddr s).toNat % 8 = 0 ∧ (nvAddr s).toNat + 8 ≤ 2 ^ 64 := by
  have h8 : s.ctx.nvBase.toNat % 8 = 0 := by simpa [nvAligned] using h
  have := s.ctx.nvBase.isLt
  simp only [nvAddr, BitVec.toNat_add, BitVec.toNat_ofNat]
  omega

/-- The redirected store keeps the canonical form of memory (R46, R48). -/
theorem nvWrite_wf {s : State} (v : Word) (ha : nvAligned s = true) (h : Memory.wf s.mem) :
    Memory.wf (nvWrite s v).mem :=
  memWriteBytes_wf _ (by simpa using (nvAddr_room ha).2) h

/-- The memory after reset is in its canonical form. -/
theorem reset_mem_wf : Memory.wf State.reset.mem := by
  refine ⟨⟨?_, ?_⟩, ?_⟩ <;> simp [State.reset, State.resetWith]

end Sys2Proof.Machine
end

