-- ==== Sys2Proof/Laws/Ops.lean ====
section
/-! SUPPORT. What each shared operation can do, said once. -/

namespace Sys2Proof.Machine

/-! ### Registers -/

@[simp] theorem readX_xzr (s : State) : readX s 31#5 = 0#64 := by simp [readX]

/-- A register written is the value read, but for XZR (R27). -/
theorem readX_writeX_same (s : State) {t : BitVec 5} (v : Word) (h : t ≠ 31#5) : readX (writeX s t v) t = v := by
  have ht : t.toNat < 31 := by
    have := t.isLt
    have : t.toNat ≠ 31 := fun e => h (BitVec.eq_of_toNat_eq e)
    omega
  simp [readX, writeX, ht]

/-- A write leaves every other register (R27). -/
theorem readX_writeX_ne (s : State) {t n : BitVec 5} (v : Word) (h : n ≠ t) : readX (writeX s t v) n = readX s n := by
  have hne : t.toNat ≠ n.toNat := fun e => h (BitVec.eq_of_toNat_eq e.symm)
  unfold readX writeX
  split_ifs with hn ht
  · simp [hne]
  · rfl
  · rfl

/-- A write of XZR changes nothing (R62). -/
@[simp] theorem writeX_xzr (s : State) (v : Word) : writeX s 31#5 v = s := by simp [writeX]

/-- Reading a register looks at the register file only. -/
theorem readX_congr {s s' : State} (h : s'.x = s.x) (n : BitVec 5) : readX s' n = readX s n := by
  unfold readX; rw [h]

/-! ### The register `HFGRTR_EL2` -/

/-- Masking RES0 bits twice is masking them once (R20). -/
@[simp] theorem maskRES0_idem (c : Config) (v : Word) : c.maskRES0 (c.maskRES0 v) = c.maskRES0 v := by
  unfold Config.maskRES0
  split_ifs
  · rfl
  · rw [BitVec.and_assoc, BitVec.and_self]

theorem foldl_implMask_getLsbD (c : Config) (l : List Field) (m : Word) (b : Nat) (hb : b < 64) :
    (l.foldl (fun m f => if c.featOf f then m ||| (1#64 <<< c.bitOf f) else m) m).getLsbD b =
      (m.getLsbD b || l.any (fun f => c.featOf f && c.bitOf f == b)) := by
  induction l generalizing m with
  | nil => simp
  | cons f l ih =>
    rw [List.foldl_cons, ih, List.any_cons]
    cases hf : c.featOf f
    · simp
    · have hbit : (1#64 <<< c.bitOf f).getLsbD b = (c.bitOf f == b) := by
        rw [BitVec.getLsbD_shiftLeft]
        rcases lt_trichotomy b (c.bitOf f) with h | h | h
        · have : c.bitOf f ≠ b := by omega
          simp [h, this]
        · subst h; simp [hb]
        · have h1 : b - c.bitOf f ≠ 0 := by omega
          have : c.bitOf f ≠ b := by omega
          simp [BitVec.getLsbD_one, this, h1]
      simp only [if_true, BitVec.getLsbD_or, hbit, Bool.true_and, Bool.or_assoc]

/-- The bits that are not RES0 are those of the implemented fields, with EL2 implemented (R15, R20, R21). -/
theorem implMask_getLsbD (c : Config) {b : Nat} (hb : b < 64) :
    c.implMask.getLsbD b = (c.haveEL2 && Field.all.any (fun f => c.featOf f && c.bitOf f == b)) := by
  unfold Config.implMask
  cases c.haveEL2
  · simp
  · simp only [if_true, Bool.true_and]
    rw [foldl_implMask_getLsbD c Field.all _ b hb]
    simp

/-- Every field is listed. -/
theorem mem_allFields (f : Field) : f ∈ Field.all := by cases f <;> decide

/-! ### Completion and exceptions -/

/-- An instruction completes exactly where the pc has room (R28). -/
theorem finish_of_room {s : State} (h : pcHasRoom s) : finish s = .next { s with pc := s.pc + 4#64 } := if_pos h

theorem finish_next {s s' : State} (h : finish s = .next s') : pcHasRoom s ∧ s' = { s with pc := s.pc + 4#64 } := by
  unfold finish at h
  split_ifs at h with hr
  exact ⟨hr, (Result.next.inj h).symm⟩

/-- Where an exception can be taken, it is entered (R163). -/
theorem takeException_eq {s : State} {t : Target} {ec : BitVec 6} {iss : BitVec 25}
    (hl : levelImplemented s.cfg t.el = true) (hn : s.pstate.el.num ≤ t.el.num)
    (ha : t = .el1 → s.ctx.el1A64 = true) :
    takeException s t ec iss = .next (enterException s t ec iss) := by
  have h1 : ¬ (levelImplemented s.cfg t.el = false ∨ t.el.num < s.pstate.el.num) := by
    rintro (h | h)
    · rw [hl] at h; exact absurd h (by decide)
    · omega
  have h2 : ¬ (t = .el1 ∧ s.ctx.el1A64 = false) := by
    rintro ⟨h, h'⟩
    rw [ha h] at h'
    exact absurd h' (by decide)
  rw [takeException, if_neg h1, if_neg h2]

/-- If taking an exception answers a next state, it is the entry to a level that is implemented and not lower. -/
theorem takeException_next {s s' : State} {t : Target} {ec : BitVec 6} {iss : BitVec 25}
    (h : takeException s t ec iss = .next s') :
    levelImplemented s.cfg t.el = true ∧ s.pstate.el.num ≤ t.el.num ∧ (t = .el1 → s.ctx.el1A64 = true) ∧
      s' = enterException s t ec iss := by
  unfold takeException at h
  split_ifs at h with h1 h2
  simp only [not_or, Bool.not_eq_false, Nat.not_lt] at h1
  refine ⟨h1.1, h1.2, fun e => ?_, ((Host.Outcome.next.injEq _ _).mp h).symm⟩
  simpa [e] using h2

/-- A raised exception that answers a next state is an entry. -/
theorem raiseException_next {s s' : State} {a : Access} {e : Exn} (h : raiseException s a e = .next s') :
    ∃ t ec iss, levelImplemented s.cfg t.el = true ∧ s.pstate.el.num ≤ t.el.num ∧
      s' = enterException s t ec iss := by
  cases e with
  | trap t ec =>
    obtain ⟨h1, h2, -, h4⟩ := takeException_next h
    exact ⟨t, ec, _, h1, h2, h4⟩
  | undefined =>
    obtain ⟨h1, h2, -, h4⟩ := takeException_next h
    exact ⟨_, _, _, h1, h2, h4⟩

/-- A read handed over completes, or an exception of the rest of the machine is entered (R79). -/
theorem handOver_next {s s' : State} {a : Access} (h : handOver s a = .next s') :
    (s.ctx.untrapped = .completes ∧ pcHasRoom s ∧ s' = { completeRead s a with pc := s.pc + 4#64 }) ∨
      ∃ t ec iss, levelImplemented s.cfg t.el = true ∧ s.pstate.el.num ≤ t.el.num ∧
        s' = enterException s t ec iss := by
  unfold handOver at h
  cases hu : s.ctx.untrapped with
  | completes =>
    rw [hu] at h
    simp only at h
    split at h
    · rename_i t ht
      obtain ⟨hr, rfl⟩ := finish_next ht
      simp only [Host.Outcome.next.injEq] at h
      left
      refine ⟨rfl, by simpa using hr, ?_⟩
      rw [← h]
      simp
    · cases h
  | raises e =>
    rw [hu] at h
    exact .inr (raiseException_next h)

/-- What an access can do when it answers a next state: complete, be handed over, or enter an exception. -/
theorem runAccess_next {s s' : State} {a : Access} {r : Result} (h : runAccess s a r = .next s') :
    s.Wf ∧ (r = .next s' ∨
      (r = .notThisHardware ∧ s.ctx.untrapped = .completes ∧ pcHasRoom s ∧
        s' = { completeRead s a with pc := s.pc + 4#64 }) ∨
      ∃ t ec iss, levelImplemented s.cfg t.el = true ∧ s.pstate.el.num ≤ t.el.num ∧
        s' = enterException s t ec iss) := by
  unfold runAccess at h
  split_ifs at h with hw ha
  refine ⟨⟨hw, ha⟩, ?_⟩
  cases r with
  | next u =>
    simp only [deliver, Host.Outcome.next.injEq] at h
    exact .inl (by rw [h])
  | raise e => exact .inr (.inr (raiseException_next h))
  | nvMemAbort => cases h
  | notThisHardware =>
    rcases handOver_next h with h | h
    · exact .inr (.inl ⟨rfl, h⟩)
    · exact .inr (.inr h)
  | refuse r => cases h

/-- In a well-formed state an access delivers its result (R48, R77). -/
theorem runAccess_of_wf {s : State} (a : Access) (r : Result) (h : s.Wf) : runAccess s a r = deliver s a r := by
  rw [runAccess, if_pos h.1, if_pos h.2]

/-- A state whose `NVBase` is off alignment is refused (R48, D12). -/
theorem runAccess_of_misaligned {s : State} (a : Access) (r : Result) (hw : s.cfg.Wf) (h : nvAligned s = false) :
    runAccess s a r = .refused .nvBaseMisaligned := by
  rw [runAccess, if_pos hw, h]; rfl

/-- An ill-formed configuration is refused (R77, D29). -/
theorem runAccess_of_illFormed {s : State} (a : Access) (r : Result) (hw : ¬ s.cfg.Wf) :
    runAccess s a r = .refused .illFormedConfig := if_neg hw

@[simp] theorem nvAligned_iff (s : State) : nvAligned s = true ↔ s.ctx.nvBase.toNat % 8 = 0 := by simp [nvAligned]

/-- A change of context keeps the base aligned and the location off the program text, or is refused (R48, R55). -/
theorem setContext_next {s s' : State} {c : Context} (h : setContext s c = .next s') :
    nvAligned s' = true ∧ nvOffText s' ∧ s' = { s with ctx := c } := by
  unfold setContext at h
  split_ifs at h with h1 h2
  simp only [Host.Outcome.next.injEq] at h
  subst h
  exact ⟨h1, h2, rfl⟩

/-- The chain of the accessors, when it answers a next state (R146, R150): at EL1 through memory, at EL2 and EL3
through the register. -/
theorem accessorChain_next {s viaMem viaReg s' : State} (h : accessorChain s viaMem viaReg = .next s') :
    s.cfg.haveFGT = true ∧
      ((s.pstate.el = .el1 ∧ nvMatches1x1 s = true ∧ nvOffText s ∧ s.ctx.nvAbort = false ∧
          finish viaMem = .next s') ∨
        (s.pstate.el = .el2 ∧ (s.cfg.haveEL3 = false ∨ fgtEn s = true) ∧ finish viaReg = .next s') ∨
        (s.pstate.el = .el3 ∧ finish viaReg = .next s')) := by
  unfold accessorChain at h
  cases hf : s.cfg.haveFGT
  · simp [hf] at h
  · cases he : s.pstate.el <;> simp only [hf, he, Bool.not_true, if_false, reduceCtorEq] at h
    · exact ⟨rfl, .inl (by
        split_ifs at h with h1
        · unfold nvAccess at h
          split_ifs at h with h2 h3
          exact ⟨rfl, h1, h2, by simpa using h3, h⟩)⟩
    · refine ⟨rfl, .inr (.inl ⟨rfl, ?_⟩)⟩
      split_ifs at h with h1 h2
      refine ⟨?_, h⟩
      by_cases h3 : s.cfg.haveEL3 = true
      · simp only [h3, Bool.true_and, Bool.not_eq_true', Bool.not_eq_false] at h2
        exact .inr h2
      · exact .inl (by simpa using h3)
    · exact ⟨rfl, .inr (.inr ⟨rfl, h⟩)⟩

end Sys2Proof.Machine
end

