-- ==== Sys2Proof/Laws/Trap.lean ====
section
/-! SUPPORT. The trap predicate: which field can trap a read, and what a read does when it answers a next state. -/

namespace Sys2Proof.Machine

/-- `exists F. FGRT_Traps(F, r, s)` (R77). -/
theorem trapped_iff_exists (s : State) (r : Read) : trapped s r = true ↔ ∃ f, fgrtTraps s r f = true := by
  simp only [trapped, List.any_eq_true]
  exact ⟨fun ⟨f, _, h⟩ => ⟨f, h⟩, fun ⟨f, h⟩ => ⟨f, mem_allFields f, h⟩⟩

/-- The conjuncts of `FGRT_Traps` (R77). -/
theorem fgrtTraps_iff (s : State) (r : Read) (f : Field) :
    fgrtTraps s r f = true ↔
      s.cfg.haveFGT = true ∧ s.cfg.featOf f = true ∧ (s.ctx.el1A64 = true ∧ covers s.cfg f r = true) ∧ fgrtCommon s = true ∧
        (f.coversEL0 = true → effE2hTge s ≠ 0b11#2) ∧ (f.needsEL1A64 = true → s.ctx.el1A64 = true) ∧
        fieldTraps s f = true := by
  simp only [fgrtTraps, coveredIn, Bool.and_eq_true, Bool.or_eq_true, Bool.not_eq_true', bne_iff_ne, ne_eq, and_assoc]
  constructor <;> rintro ⟨h1, h2, h3, h3', h4, h5, h6, h7⟩ <;> refine ⟨h1, h2, h3, h3', h4, ?_, ?_, h7⟩
  · rintro h; rw [h] at h5; simpa using h5
  · rintro h; rw [h] at h6; simpa using h6
  · cases hc : f.coversEL0
    · exact .inl rfl
    · exact .inr (h5 hc)
  · cases hc : f.needsEL1A64
    · exact .inl rfl
    · exact .inr (h6 hc)

/-- The conjuncts of `Covers` (R77). -/
theorem covers_iff (c : Config) (f : Field) (r : Read) :
    covers c f r = true ↔
      c.fieldOf r.reg = some f ∧ Field.coversLevel f r.el = true ∧ r.kind ∈ f.kinds ∧
        (if r.kind = .mrc then r.iset ≠ .a64 ∧ r.el = .el0 else r.iset = .a64) := by
  unfold covers
  split_ifs with h <;> simp [h, and_assoc, and_left_comm]

/-- No read is trapped while EL1 is using AArch32 (R171, D33). -/
theorem trapped_eq_false_of_el1A32 {s : State} (r : Read) (h : s.ctx.el1A64 = false) : trapped s r = false := by
  rw [Bool.eq_false_iff, Ne, trapped_iff_exists]
  rintro ⟨f, hf⟩
  have := ((fgrtTraps_iff s r f).1 hf).2.2.1.1
  rw [h] at this
  cases this

/-- A trapped read is trapped by the one field whose set holds its register (R167). -/
theorem trapped_eq_of_fieldOf {s : State} {r : Read} {f : Field} (h : s.cfg.fieldOf r.reg = some f) :
    trapped s r = fgrtTraps s r f := by
  rw [Bool.eq_iff_iff, trapped_iff_exists]
  refine ⟨fun ⟨g, hg⟩ => ?_, fun hf => ⟨f, hf⟩⟩
  have := ((covers_iff _ _ _).1 ((fgrtTraps_iff s r g).1 hg).2.2.1.2).1
  rw [h] at this
  rwa [Option.some.inj this]

/-- A read of a register in no field's set is not trapped (R79). -/
theorem trapped_eq_false_of_fieldOf {s : State} {r : Read} (h : s.cfg.fieldOf r.reg = none) :
    trapped s r = false := by
  rw [Bool.eq_false_iff, Ne, trapped_iff_exists]
  rintro ⟨g, hg⟩
  have := ((covers_iff _ _ _).1 ((fgrtTraps_iff s r g).1 hg).2.2.1.2).1
  rw [h] at this
  cases this

/-- The context's table can hold any answers of the oracle `HigherPriority`, read by read (R6, R78). -/
theorem exists_higherPriority (s : State) (f : Read → Option Exn) (l : List Read) :
    ∃ t, ∀ r ∈ l, higherPriority { s with ctx := { s.ctx with higherPriority := t } } r = f r := by
  refine ⟨l.filterMap (fun r => (f r).map (fun e => (r, e))), fun r hr => ?_⟩
  simp only [higherPriority]
  induction l with
  | nil => cases hr
  | cons q l ih =>
    by_cases hq : r = q
    · subst hq
      cases hf : f r with
      | some e => simp [hf]
      | none =>
        simp only [List.filterMap_cons, hf, Option.map_none]
        by_cases hm : r ∈ l
        · rw [ih hm, hf]
        · rw [List.lookup_eq_none_iff]
          intro p hp
          obtain ⟨a, ha, hap⟩ := List.mem_filterMap.1 hp
          obtain ⟨e, -, rfl⟩ := Option.map_eq_some_iff.1 hap
          exact bne_iff_ne.2 fun h => hm (h ▸ ha)
    · have hm : r ∈ l := (List.mem_cons.1 hr).resolve_left hq
      cases hf : f q with
      | some e => simp only [List.filterMap_cons, hf, Option.map_some, List.lookup_cons, beq_eq_false_iff_ne.2 hq, ih hm]
      | none => simp only [List.filterMap_cons, hf, Option.map_none, ih hm]

/-- The result of a read is never a next state of its own: it raises, or it is not this hardware's (R77). -/
theorem readResult_cases (s : State) (r : Read) :
    (∃ e, higherPriority s r = some e ∧ readResult s r = .raise e) ∨
      (higherPriority s r = none ∧ trapped s r = true ∧
        readResult s r = .raise (.trap .el2 (ecOf s.cfg r.kind))) ∨
      (higherPriority s r = none ∧ trapped s r = false ∧ readResult s r = .notThisHardware) := by
  unfold readResult
  cases h : higherPriority s r with
  | some e => exact .inl ⟨e, rfl, rfl⟩
  | none =>
    cases ht : trapped s r
    · exact .inr (.inr ⟨rfl, rfl, by simp⟩)
    · exact .inr (.inl ⟨rfl, rfl, by simp⟩)

end Sys2Proof.Machine
end

