-- ==== Sys2Proof/Laws/Dispatch.lean ====
section
/-! SUPPORT. `exec` by what an instruction accesses, so that a proof about a family makes one case of it. -/

namespace Sys2Proof.Machine

/-- The meaning of an access. -/
def execAccess (s : State) : Access → Host.Outcome State Fault Refusal
  | .mrsH t => execMrsHfgrtrEl2 t s
  | .msrH t => execMsrHfgrtrEl2 t s
  | .mrs r t => runMrs r t s
  | .mrrs r t => runMrrs r t s
  | .mrc r cond t => runMrc r cond t s

/-- Every instruction does what its access does. -/
theorem exec_eq_execAccess (i : Instr) (s : State) : exec i s = execAccess s i.access := by
  cases i <;> rfl

/-- A read whose condition holds does the step of R77. -/
theorem exec_read {i : Instr} {s : State} {k : ReadKind} {reg : SysReg} (hr : readOf i = some (k, reg))
    (hc : condOk s i = true) : exec i s = runAccess s i.access (readResult s (readIn s k reg)) := by
  rw [exec_eq_execAccess]
  unfold readOf at hr
  unfold condOk at hc
  cases ha : i.access <;> rw [ha] at hr hc <;>
    simp only [Option.some.injEq, Prod.mk.injEq, reduceCtorEq] at hr
  · obtain ⟨rfl, rfl⟩ := hr; rfl
  · obtain ⟨rfl, rfl⟩ := hr; rfl
  · obtain ⟨rfl, rfl⟩ := hr
    simp only at hc
    simp [execAccess, runMrc, hc]

/-- A read whose condition fails does nothing but advance the pc (log 23). -/
theorem exec_read_skipped {i : Instr} {s : State} {k : ReadKind} {reg : SysReg} (hr : readOf i = some (k, reg))
    (hc : condOk s i = false) : exec i s = runAccess s i.access (finish s) := by
  rw [exec_eq_execAccess]
  unfold readOf at hr
  unfold condOk at hc
  cases ha : i.access <;> rw [ha] at hr hc <;>
    simp only [Option.some.injEq, Prod.mk.injEq, reduceCtorEq] at hr hc
  obtain ⟨rfl, rfl⟩ := hr
  simp [execAccess, runMrc, hc]

end Sys2Proof.Machine
end

