-- ==== Sys2Proof/Laws/PerInstr.lean ====
section
/-! SUPPORT. Per-instruction facts: the word that encodes an instruction matches its row of spec/opcode_table.json,
whose `match` and `mask` are written here from the table itself, and not from the coordinates the encoder uses. -/

namespace Sys2Proof

/-- The `match` of an instruction's row. -/
def Instr.rowMatch : Instr → InstrWord
  | .mrsHfgrtrEl2 .. => 0xD53C1180#32
  | .msrHfgrtrEl2 .. => 0xD51C1180#32
  | .mrsAmair2El1 .. => 0xD538A320#32
  | .mrsMair2El1 .. => 0xD538A220#32
  | .mrsS2porEl1 .. => 0xD538A2A0#32
  | .mrsPorEl1 .. => 0xD538A280#32
  | .mrsPorEl0 .. => 0xD53BA280#32
  | .mrsPirEl1 .. => 0xD538A260#32
  | .mrsPire0El1 .. => 0xD538A240#32
  | .mrsRcwmaskEl1 .. => 0xD538D0C0#32
  | .mrsTpidr2El0 .. => 0xD53BD0A0#32
  | .mrsSmpriEl1 .. => 0xD5381280#32
  | .mrsGcscrEl1 .. => 0xD5382500#32
  | .mrsGcsprEl1 .. => 0xD5382520#32
  | .mrsGcscre0El1 .. => 0xD5382540#32
  | .mrsGcsprEl0 .. => 0xD53B2520#32
  | .mrsAccdataEl1 .. => 0xD538D0A0#32
  | .mrsErxaddrEl1 .. => 0xD5385460#32
  | .mrsErxpfgcdnEl1 .. => 0xD53854C0#32
  | .mrsErxpfgctlEl1 .. => 0xD53854A0#32
  | .mrsErxpfgfEl1 .. => 0xD5385480#32
  | .mrsErxmisc0El1 .. => 0xD5385500#32
  | .mrsErxmisc1El1 .. => 0xD5385520#32
  | .mrsErxmisc2El1 .. => 0xD5385540#32
  | .mrsErxmisc3El1 .. => 0xD5385560#32
  | .mrsErxstatusEl1 .. => 0xD5385440#32
  | .mrsErxctlrEl1 .. => 0xD5385420#32
  | .mrsErxfrEl1 .. => 0xD5385400#32
  | .mrsErrselrEl1 .. => 0xD5385320#32
  | .mrsErridrEl1 .. => 0xD5385300#32
  | .mrsIccIgrpen0El1 .. => 0xD538CCC0#32
  | .mrsIccIgrpen1El1 .. => 0xD538CCE0#32
  | .mrsVbarEl1 .. => 0xD538C000#32
  | .mrsTtbr1El1 .. => 0xD5382020#32
  | .mrsTtbr0El1 .. => 0xD5382000#32
  | .mrsTpidrEl0 .. => 0xD53BD040#32
  | .mrsTpidrroEl0 .. => 0xD53BD060#32
  | .mrsTpidrEl1 .. => 0xD538D080#32
  | .mrsTcrEl1 .. => 0xD5382040#32
  | .mrsTcr2El1 .. => 0xD5382060#32
  | .mrsScxtnumEl0 .. => 0xD53BD0E0#32
  | .mrsScxtnumEl1 .. => 0xD538D0E0#32
  | .mrsSctlrEl1 .. => 0xD5381000#32
  | .mrsSctlr2El1 .. => 0xD5381060#32
  | .mrsRevidrEl1 .. => 0xD53800C0#32
  | .mrsParEl1 .. => 0xD5387400#32
  | .mrsMpidrEl1 .. => 0xD53800A0#32
  | .mrsMidrEl1 .. => 0xD5380000#32
  | .mrsMairEl1 .. => 0xD538A200#32
  | .mrsLorsaEl1 .. => 0xD538A400#32
  | .mrsLornEl1 .. => 0xD538A440#32
  | .mrsLoridEl1 .. => 0xD538A4E0#32
  | .mrsLoreaEl1 .. => 0xD538A420#32
  | .mrsLorcEl1 .. => 0xD538A460#32
  | .mrsIsrEl1 .. => 0xD538C100#32
  | .mrsFarEl1 .. => 0xD5386000#32
  | .mrsEsrEl1 .. => 0xD5385200#32
  | .mrsDczidEl0 .. => 0xD53B00E0#32
  | .mrsCtrEl0 .. => 0xD53B0020#32
  | .mrsCsselrEl1 .. => 0xD53A0000#32
  | .mrsCpacrEl1 .. => 0xD5381040#32
  | .mrsContextidrEl1 .. => 0xD538D020#32
  | .mrsClidrEl1 .. => 0xD5390020#32
  | .mrsCcsidrEl1 .. => 0xD5390000#32
  | .mrsApibKeyHiEl1 .. => 0xD5382160#32
  | .mrsApibKeyLoEl1 .. => 0xD5382140#32
  | .mrsApiaKeyHiEl1 .. => 0xD5382120#32
  | .mrsApiaKeyLoEl1 .. => 0xD5382100#32
  | .mrsApgaKeyHiEl1 .. => 0xD5382320#32
  | .mrsApgaKeyLoEl1 .. => 0xD5382300#32
  | .mrsApdbKeyHiEl1 .. => 0xD5382260#32
  | .mrsApdbKeyLoEl1 .. => 0xD5382240#32
  | .mrsApdaKeyHiEl1 .. => 0xD5382220#32
  | .mrsApdaKeyLoEl1 .. => 0xD5382200#32
  | .mrsAmairEl1 .. => 0xD538A300#32
  | .mrsAidrEl1 .. => 0xD53900E0#32
  | .mrsAfsr1El1 .. => 0xD5385120#32
  | .mrsAfsr0El1 .. => 0xD5385100#32
  | .mrrsRcwmaskEl1 .. => 0xD578D0C0#32
  | .mrrsTtbr1El1 .. => 0xD5782020#32
  | .mrrsTtbr0El1 .. => 0xD5782000#32
  | .mrrsParEl1 .. => 0xD5787400#32
  | .mrcTpidrurw .. => 0x0E1D0F50#32
  | .mrcTpidruro .. => 0x0E1D0F70#32

/-- The `mask` of an instruction's row. -/
def Instr.rowMask (i : Instr) : InstrWord :=
  match i.iset with
  | .a64 => 0xFFFFFFE0#32
  | .a32 => 0x0FFF0FFF#32
  | .t32 => 0x0FFF0FFF#32

/-- The word of a well-formed instruction is one of its row's. -/
def Laws.MatchesRow.Statement (i : Instr) : Prop :=
  i.wellFormed = true → encodeWord i &&& i.rowMask = i.rowMatch

theorem Laws.MatchesRow.mrsHfgrtrEl2 (t : BitVec 5) : Laws.MatchesRow.Statement (.mrsHfgrtrEl2 t) := by
  intro _; revert t; decide

theorem Laws.MatchesRow.msrHfgrtrEl2 (t : BitVec 5) : Laws.MatchesRow.Statement (.msrHfgrtrEl2 t) := by
  intro _; revert t; decide

theorem Laws.MatchesRow.mrsAmair2El1 (t : BitVec 5) : Laws.MatchesRow.Statement (.mrsAmair2El1 t) := by
  intro _; revert t; decide

theorem Laws.MatchesRow.mrsMair2El1 (t : BitVec 5) : Laws.MatchesRow.Statement (.mrsMair2El1 t) := by
  intro _; revert t; decide

theorem Laws.MatchesRow.mrsS2porEl1 (t : BitVec 5) : Laws.MatchesRow.Statement (.mrsS2porEl1 t) := by
  intro _; revert t; decide

theorem Laws.MatchesRow.mrsPorEl1 (t : BitVec 5) : Laws.MatchesRow.Statement (.mrsPorEl1 t) := by
  intro _; revert t; decide

theorem Laws.MatchesRow.mrsPorEl0 (t : BitVec 5) : Laws.MatchesRow.Statement (.mrsPorEl0 t) := by
  intro _; revert t; decide

theorem Laws.MatchesRow.mrsPirEl1 (t : BitVec 5) : Laws.MatchesRow.Statement (.mrsPirEl1 t) := by
  intro _; revert t; decide

theorem Laws.MatchesRow.mrsPire0El1 (t : BitVec 5) : Laws.MatchesRow.Statement (.mrsPire0El1 t) := by
  intro _; revert t; decide

theorem Laws.MatchesRow.mrsRcwmaskEl1 (t : BitVec 5) : Laws.MatchesRow.Statement (.mrsRcwmaskEl1 t) := by
  intro _; revert t; decide

theorem Laws.MatchesRow.mrsTpidr2El0 (t : BitVec 5) : Laws.MatchesRow.Statement (.mrsTpidr2El0 t) := by
  intro _; revert t; decide

theorem Laws.MatchesRow.mrsSmpriEl1 (t : BitVec 5) : Laws.MatchesRow.Statement (.mrsSmpriEl1 t) := by
  intro _; revert t; decide

theorem Laws.MatchesRow.mrsGcscrEl1 (t : BitVec 5) : Laws.MatchesRow.Statement (.mrsGcscrEl1 t) := by
  intro _; revert t; decide

theorem Laws.MatchesRow.mrsGcsprEl1 (t : BitVec 5) : Laws.MatchesRow.Statement (.mrsGcsprEl1 t) := by
  intro _; revert t; decide

theorem Laws.MatchesRow.mrsGcscre0El1 (t : BitVec 5) : Laws.MatchesRow.Statement (.mrsGcscre0El1 t) := by
  intro _; revert t; decide

theorem Laws.MatchesRow.mrsGcsprEl0 (t : BitVec 5) : Laws.MatchesRow.Statement (.mrsGcsprEl0 t) := by
  intro _; revert t; decide

theorem Laws.MatchesRow.mrsAccdataEl1 (t : BitVec 5) : Laws.MatchesRow.Statement (.mrsAccdataEl1 t) := by
  intro _; revert t; decide

theorem Laws.MatchesRow.mrsErxaddrEl1 (t : BitVec 5) : Laws.MatchesRow.Statement (.mrsErxaddrEl1 t) := by
  intro _; revert t; decide

theorem Laws.MatchesRow.mrsErxpfgcdnEl1 (t : BitVec 5) : Laws.MatchesRow.Statement (.mrsErxpfgcdnEl1 t) := by
  intro _; revert t; decide

theorem Laws.MatchesRow.mrsErxpfgctlEl1 (t : BitVec 5) : Laws.MatchesRow.Statement (.mrsErxpfgctlEl1 t) := by
  intro _; revert t; decide

theorem Laws.MatchesRow.mrsErxpfgfEl1 (t : BitVec 5) : Laws.MatchesRow.Statement (.mrsErxpfgfEl1 t) := by
  intro _; revert t; decide

theorem Laws.MatchesRow.mrsErxmisc0El1 (t : BitVec 5) : Laws.MatchesRow.Statement (.mrsErxmisc0El1 t) := by
  intro _; revert t; decide

theorem Laws.MatchesRow.mrsErxmisc1El1 (t : BitVec 5) : Laws.MatchesRow.Statement (.mrsErxmisc1El1 t) := by
  intro _; revert t; decide

theorem Laws.MatchesRow.mrsErxmisc2El1 (t : BitVec 5) : Laws.MatchesRow.Statement (.mrsErxmisc2El1 t) := by
  intro _; revert t; decide

theorem Laws.MatchesRow.mrsErxmisc3El1 (t : BitVec 5) : Laws.MatchesRow.Statement (.mrsErxmisc3El1 t) := by
  intro _; revert t; decide

theorem Laws.MatchesRow.mrsErxstatusEl1 (t : BitVec 5) : Laws.MatchesRow.Statement (.mrsErxstatusEl1 t) := by
  intro _; revert t; decide

theorem Laws.MatchesRow.mrsErxctlrEl1 (t : BitVec 5) : Laws.MatchesRow.Statement (.mrsErxctlrEl1 t) := by
  intro _; revert t; decide

theorem Laws.MatchesRow.mrsErxfrEl1 (t : BitVec 5) : Laws.MatchesRow.Statement (.mrsErxfrEl1 t) := by
  intro _; revert t; decide

theorem Laws.MatchesRow.mrsErrselrEl1 (t : BitVec 5) : Laws.MatchesRow.Statement (.mrsErrselrEl1 t) := by
  intro _; revert t; decide

theorem Laws.MatchesRow.mrsErridrEl1 (t : BitVec 5) : Laws.MatchesRow.Statement (.mrsErridrEl1 t) := by
  intro _; revert t; decide

theorem Laws.MatchesRow.mrsIccIgrpen0El1 (t : BitVec 5) : Laws.MatchesRow.Statement (.mrsIccIgrpen0El1 t) := by
  intro _; revert t; decide

theorem Laws.MatchesRow.mrsIccIgrpen1El1 (t : BitVec 5) : Laws.MatchesRow.Statement (.mrsIccIgrpen1El1 t) := by
  intro _; revert t; decide

theorem Laws.MatchesRow.mrsVbarEl1 (t : BitVec 5) : Laws.MatchesRow.Statement (.mrsVbarEl1 t) := by
  intro _; revert t; decide

theorem Laws.MatchesRow.mrsTtbr1El1 (t : BitVec 5) : Laws.MatchesRow.Statement (.mrsTtbr1El1 t) := by
  intro _; revert t; decide

theorem Laws.MatchesRow.mrsTtbr0El1 (t : BitVec 5) : Laws.MatchesRow.Statement (.mrsTtbr0El1 t) := by
  intro _; revert t; decide

theorem Laws.MatchesRow.mrsTpidrEl0 (t : BitVec 5) : Laws.MatchesRow.Statement (.mrsTpidrEl0 t) := by
  intro _; revert t; decide

theorem Laws.MatchesRow.mrsTpidrroEl0 (t : BitVec 5) : Laws.MatchesRow.Statement (.mrsTpidrroEl0 t) := by
  intro _; revert t; decide

theorem Laws.MatchesRow.mrsTpidrEl1 (t : BitVec 5) : Laws.MatchesRow.Statement (.mrsTpidrEl1 t) := by
  intro _; revert t; decide

theorem Laws.MatchesRow.mrsTcrEl1 (t : BitVec 5) : Laws.MatchesRow.Statement (.mrsTcrEl1 t) := by
  intro _; revert t; decide

theorem Laws.MatchesRow.mrsTcr2El1 (t : BitVec 5) : Laws.MatchesRow.Statement (.mrsTcr2El1 t) := by
  intro _; revert t; decide

theorem Laws.MatchesRow.mrsScxtnumEl0 (t : BitVec 5) : Laws.MatchesRow.Statement (.mrsScxtnumEl0 t) := by
  intro _; revert t; decide

theorem Laws.MatchesRow.mrsScxtnumEl1 (t : BitVec 5) : Laws.MatchesRow.Statement (.mrsScxtnumEl1 t) := by
  intro _; revert t; decide

theorem Laws.MatchesRow.mrsSctlrEl1 (t : BitVec 5) : Laws.MatchesRow.Statement (.mrsSctlrEl1 t) := by
  intro _; revert t; decide

theorem Laws.MatchesRow.mrsSctlr2El1 (t : BitVec 5) : Laws.MatchesRow.Statement (.mrsSctlr2El1 t) := by
  intro _; revert t; decide

theorem Laws.MatchesRow.mrsRevidrEl1 (t : BitVec 5) : Laws.MatchesRow.Statement (.mrsRevidrEl1 t) := by
  intro _; revert t; decide

theorem Laws.MatchesRow.mrsParEl1 (t : BitVec 5) : Laws.MatchesRow.Statement (.mrsParEl1 t) := by
  intro _; revert t; decide

theorem Laws.MatchesRow.mrsMpidrEl1 (t : BitVec 5) : Laws.MatchesRow.Statement (.mrsMpidrEl1 t) := by
  intro _; revert t; decide

theorem Laws.MatchesRow.mrsMidrEl1 (t : BitVec 5) : Laws.MatchesRow.Statement (.mrsMidrEl1 t) := by
  intro _; revert t; decide

theorem Laws.MatchesRow.mrsMairEl1 (t : BitVec 5) : Laws.MatchesRow.Statement (.mrsMairEl1 t) := by
  intro _; revert t; decide

theorem Laws.MatchesRow.mrsLorsaEl1 (t : BitVec 5) : Laws.MatchesRow.Statement (.mrsLorsaEl1 t) := by
  intro _; revert t; decide

theorem Laws.MatchesRow.mrsLornEl1 (t : BitVec 5) : Laws.MatchesRow.Statement (.mrsLornEl1 t) := by
  intro _; revert t; decide

theorem Laws.MatchesRow.mrsLoridEl1 (t : BitVec 5) : Laws.MatchesRow.Statement (.mrsLoridEl1 t) := by
  intro _; revert t; decide

theorem Laws.MatchesRow.mrsLoreaEl1 (t : BitVec 5) : Laws.MatchesRow.Statement (.mrsLoreaEl1 t) := by
  intro _; revert t; decide

theorem Laws.MatchesRow.mrsLorcEl1 (t : BitVec 5) : Laws.MatchesRow.Statement (.mrsLorcEl1 t) := by
  intro _; revert t; decide

theorem Laws.MatchesRow.mrsIsrEl1 (t : BitVec 5) : Laws.MatchesRow.Statement (.mrsIsrEl1 t) := by
  intro _; revert t; decide

theorem Laws.MatchesRow.mrsFarEl1 (t : BitVec 5) : Laws.MatchesRow.Statement (.mrsFarEl1 t) := by
  intro _; revert t; decide

theorem Laws.MatchesRow.mrsEsrEl1 (t : BitVec 5) : Laws.MatchesRow.Statement (.mrsEsrEl1 t) := by
  intro _; revert t; decide

theorem Laws.MatchesRow.mrsDczidEl0 (t : BitVec 5) : Laws.MatchesRow.Statement (.mrsDczidEl0 t) := by
  intro _; revert t; decide

theorem Laws.MatchesRow.mrsCtrEl0 (t : BitVec 5) : Laws.MatchesRow.Statement (.mrsCtrEl0 t) := by
  intro _; revert t; decide

theorem Laws.MatchesRow.mrsCsselrEl1 (t : BitVec 5) : Laws.MatchesRow.Statement (.mrsCsselrEl1 t) := by
  intro _; revert t; decide

theorem Laws.MatchesRow.mrsCpacrEl1 (t : BitVec 5) : Laws.MatchesRow.Statement (.mrsCpacrEl1 t) := by
  intro _; revert t; decide

theorem Laws.MatchesRow.mrsContextidrEl1 (t : BitVec 5) : Laws.MatchesRow.Statement (.mrsContextidrEl1 t) := by
  intro _; revert t; decide

theorem Laws.MatchesRow.mrsClidrEl1 (t : BitVec 5) : Laws.MatchesRow.Statement (.mrsClidrEl1 t) := by
  intro _; revert t; decide

theorem Laws.MatchesRow.mrsCcsidrEl1 (t : BitVec 5) : Laws.MatchesRow.Statement (.mrsCcsidrEl1 t) := by
  intro _; revert t; decide

theorem Laws.MatchesRow.mrsApibKeyHiEl1 (t : BitVec 5) : Laws.MatchesRow.Statement (.mrsApibKeyHiEl1 t) := by
  intro _; revert t; decide

theorem Laws.MatchesRow.mrsApibKeyLoEl1 (t : BitVec 5) : Laws.MatchesRow.Statement (.mrsApibKeyLoEl1 t) := by
  intro _; revert t; decide

theorem Laws.MatchesRow.mrsApiaKeyHiEl1 (t : BitVec 5) : Laws.MatchesRow.Statement (.mrsApiaKeyHiEl1 t) := by
  intro _; revert t; decide

theorem Laws.MatchesRow.mrsApiaKeyLoEl1 (t : BitVec 5) : Laws.MatchesRow.Statement (.mrsApiaKeyLoEl1 t) := by
  intro _; revert t; decide

theorem Laws.MatchesRow.mrsApgaKeyHiEl1 (t : BitVec 5) : Laws.MatchesRow.Statement (.mrsApgaKeyHiEl1 t) := by
  intro _; revert t; decide

theorem Laws.MatchesRow.mrsApgaKeyLoEl1 (t : BitVec 5) : Laws.MatchesRow.Statement (.mrsApgaKeyLoEl1 t) := by
  intro _; revert t; decide

theorem Laws.MatchesRow.mrsApdbKeyHiEl1 (t : BitVec 5) : Laws.MatchesRow.Statement (.mrsApdbKeyHiEl1 t) := by
  intro _; revert t; decide

theorem Laws.MatchesRow.mrsApdbKeyLoEl1 (t : BitVec 5) : Laws.MatchesRow.Statement (.mrsApdbKeyLoEl1 t) := by
  intro _; revert t; decide

theorem Laws.MatchesRow.mrsApdaKeyHiEl1 (t : BitVec 5) : Laws.MatchesRow.Statement (.mrsApdaKeyHiEl1 t) := by
  intro _; revert t; decide

theorem Laws.MatchesRow.mrsApdaKeyLoEl1 (t : BitVec 5) : Laws.MatchesRow.Statement (.mrsApdaKeyLoEl1 t) := by
  intro _; revert t; decide

theorem Laws.MatchesRow.mrsAmairEl1 (t : BitVec 5) : Laws.MatchesRow.Statement (.mrsAmairEl1 t) := by
  intro _; revert t; decide

theorem Laws.MatchesRow.mrsAidrEl1 (t : BitVec 5) : Laws.MatchesRow.Statement (.mrsAidrEl1 t) := by
  intro _; revert t; decide

theorem Laws.MatchesRow.mrsAfsr1El1 (t : BitVec 5) : Laws.MatchesRow.Statement (.mrsAfsr1El1 t) := by
  intro _; revert t; decide

theorem Laws.MatchesRow.mrsAfsr0El1 (t : BitVec 5) : Laws.MatchesRow.Statement (.mrsAfsr0El1 t) := by
  intro _; revert t; decide

theorem Laws.MatchesRow.mrrsRcwmaskEl1 (t : BitVec 5) : Laws.MatchesRow.Statement (.mrrsRcwmaskEl1 t) := by
  intro _; revert t; decide

theorem Laws.MatchesRow.mrrsTtbr1El1 (t : BitVec 5) : Laws.MatchesRow.Statement (.mrrsTtbr1El1 t) := by
  intro _; revert t; decide

theorem Laws.MatchesRow.mrrsTtbr0El1 (t : BitVec 5) : Laws.MatchesRow.Statement (.mrrsTtbr0El1 t) := by
  intro _; revert t; decide

theorem Laws.MatchesRow.mrrsParEl1 (t : BitVec 5) : Laws.MatchesRow.Statement (.mrrsParEl1 t) := by
  intro _; revert t; decide

theorem Laws.MatchesRow.mrcTpidrurw (cond t : BitVec 4) : Laws.MatchesRow.Statement (.mrcTpidrurw cond t) := by
  intro _; revert cond t; decide

theorem Laws.MatchesRow.mrcTpidruro (cond t : BitVec 4) : Laws.MatchesRow.Statement (.mrcTpidruro cond t) := by
  intro _; revert cond t; decide

end Sys2Proof
end

