-- ==== Sys2Proof/Laws/Step.lean ====
section
/-! SUPPORT. What an instruction, an input of the rest of the machine and a step can do, each said once. -/

namespace Sys2Proof.Machine

/-- Every instruction is an accessor of `HFGRTR_EL2` or a read (R73). -/
theorem accessor_or_read (i : Instr) :
    (∃ t, i = .mrsHfgrtrEl2 t ∨ i = .msrHfgrtrEl2 t) ∨ ∃ k reg, readOf i = some (k, reg) := by
  cases i <;> first | exact .inr ⟨_, _, rfl⟩ | exact .inl ⟨_, .inl rfl⟩ | exact .inl ⟨_, .inr rfl⟩

/-- An instruction answers a next state only from a well-formed state (R48, R77). -/
theorem exec_wf {i : Instr} {s s' : State} (h : exec i s = .next s') : s.Wf := by
  rw [exec_eq_execAccess] at h
  cases ha : i.access <;> rw [ha] at h <;> exact (runAccess_next h).1

/-- What an accessor can do: enter an exception, transfer with memory, or transfer with the register (R146, R150). -/
theorem accessor_next {s s' : State} {t : BitVec 5} {i : Instr} (hi : i = .mrsHfgrtrEl2 t ∨ i = .msrHfgrtrEl2 t)
    (h : exec i s = .next s') :
    (∃ u ec iss, levelImplemented s.cfg u.el = true ∧ s.pstate.el.num ≤ u.el.num ∧ s' = enterException s u ec iss) ∨
    (s.cfg.haveFGT = true ∧
      ((redirected s ∧ nvMemReady s ∧
          ((i = .mrsHfgrtrEl2 t ∧ s' = advance (recordNV (writeX s t (nvRead s)) .read (nvRead s))) ∨
            (i = .msrHfgrtrEl2 t ∧ s' = advance (recordNV (nvWrite s (readX s t)) .write (readX s t))))) ∨
        (reachesRegister s ∧
          ((i = .mrsHfgrtrEl2 t ∧ s' = advance (writeX s t (readHfgrtr s))) ∨
            (i = .msrHfgrtrEl2 t ∧ s' = advance (writeHfgrtr s (readX s t))))))) := by
  have chain : ∀ (viaMem viaReg : State) (a : Access), runAccess s a (accessorChain s viaMem viaReg) = .next s' →
      (∃ u ec iss, levelImplemented s.cfg u.el = true ∧ s.pstate.el.num ≤ u.el.num ∧
        s' = enterException s u ec iss) ∨
      (s.cfg.haveFGT = true ∧
        ((redirected s ∧ nvMemReady s ∧ s' = advance viaMem) ∨ (reachesRegister s ∧ s' = advance viaReg))) := by
    intro viaMem viaReg a h
    obtain ⟨-, h | h | h⟩ := runAccess_next h
    · obtain ⟨hf, ⟨h1, h2, h3, h4, h⟩ | ⟨h1, h2, h⟩ | ⟨h1, h⟩⟩ := accessorChain_next h
      · exact .inr ⟨hf, .inl ⟨⟨h1, h2⟩, ⟨h3, h4⟩, (finish_next h).2⟩⟩
      · exact .inr ⟨hf, .inr ⟨.inl ⟨h1, h2⟩, (finish_next h).2⟩⟩
      · exact .inr ⟨hf, .inr ⟨.inr h1, (finish_next h).2⟩⟩
    · obtain ⟨h, -⟩ := h
      unfold accessorChain nvAccess finish at h
      repeat' split at h
      all_goals cases h
    · exact .inl h
  rcases hi with rfl | rfl
  · rcases chain _ _ _ h with h | ⟨hf, ⟨h1, h2, h3⟩ | ⟨h1, h2⟩⟩
    · exact .inl h
    · exact .inr ⟨hf, .inl ⟨h1, h2, .inl ⟨rfl, h3⟩⟩⟩
    · exact .inr ⟨hf, .inr ⟨h1, .inl ⟨rfl, h2⟩⟩⟩
  · rcases chain _ _ _ h with h | ⟨hf, ⟨h1, h2, h3⟩ | ⟨h1, h2⟩⟩
    · exact .inl h
    · exact .inr ⟨hf, .inl ⟨h1, h2, .inr ⟨rfl, h3⟩⟩⟩
    · exact .inr ⟨hf, .inr ⟨h1, .inr ⟨rfl, h2⟩⟩⟩

/-- What a read can do: enter an exception, complete with a free value, or, by its condition, be skipped (R77, R79). -/
theorem read_next {i : Instr} {k : ReadKind} {reg : SysReg} {s s' : State} (hr : readOf i = some (k, reg))
    (h : exec i s = .next s') :
    (∃ u ec iss, levelImplemented s.cfg u.el = true ∧ s.pstate.el.num ≤ u.el.num ∧ s' = enterException s u ec iss) ∨
      s' = advance (completeRead s i.access) ∨ s' = advance s := by
  cases hc : condOk s i
  · rw [exec_read_skipped hr hc] at h
    obtain ⟨-, h | ⟨h, -⟩ | h⟩ := runAccess_next h
    · exact .inr (.inr (finish_next h).2)
    · unfold finish at h
      split_ifs at h
    · exact .inl h
  · rw [exec_read hr hc] at h
    obtain ⟨-, h | ⟨-, -, -, h⟩ | h⟩ := runAccess_next h
    · rcases readResult_cases s (readIn s k reg) with ⟨e, -, h1⟩ | ⟨-, -, h1⟩ | ⟨-, -, h1⟩ <;> rw [h1] at h <;> cases h
    · exact .inr (.inl (by rw [h]; simp [advance]))
    · exact .inl h

/-- What an input of the rest of the machine can do, field by field. -/
theorem applyRest_next {s s' : State} {e : RestEvent} (h : applyRest s e = .next s') :
    s'.cfg = s.cfg ∧ s'.text = s.text ∧ s'.rest = s.rest ∧ s'.events = s.events ∧
    (s'.hfgrtr = s.hfgrtr ∨ ∃ d, e = .reset d ∧ s'.hfgrtr = s.cfg.maskRES0 d) ∧
    (s'.mem = s.mem ∨ ∃ w b, e = .writeMem w b ∧ s'.mem = memWrite s.mem w.toNat b) ∧
    ((∀ n, readX s' n = readX s n) ∨ ∃ t v, e = .writeX t v ∧ ∀ n, n ≠ t → readX s' n = readX s n) ∧
    (s'.ctx = s.ctx ∨ ∃ c, e = .setContext c ∧ s'.ctx = c ∧ nvAligned s' = true ∧ nvOffText s') ∧
    ((s'.pstate.el = s.pstate.el ∧ (s'.pending = s.pending ∨ s'.pending = none)) ∨
      (e = .exceptionReturn ∧ levelImplemented s.cfg s'.pstate.el = true ∧
        s'.pstate.el.num ≤ s.pstate.el.num ∧ s'.pending = none) ∨
      (∃ el m pc, e = .levelChange el m pc ∧ levelImplemented s.cfg s'.pstate.el = true ∧ s'.pending = none) ∨
      (∃ d, e = .reset d ∧ s'.pstate.el = highestEL s.cfg ∧ s'.pending = none)) := by
  cases e <;> simp only [applyRest] at h
  · cases h
    simp only [contextSync_cfg, contextSync_text, contextSync_rest, contextSync_events, contextSync_hfgrtr,
      contextSync_mem, contextSync_ctx, contextSync_pstate, contextSync_pending, true_or, or_true, and_true, true_and]
    exact .inl fun n => readX_congr rfl n
  · unfold levelChange at h
    split_ifs at h with hl
    cases h
    exact ⟨rfl, rfl, rfl, rfl, .inl rfl, .inl rfl, .inl fun n => readX_congr rfl n, .inl rfl,
      .inr (.inr (.inl ⟨_, _, _, rfl, hl, rfl⟩))⟩
  · split at h
    · rename_i u hu
      cases h
      unfold exceptionReturn at hu
      split at hu
      · cases hu
      · simp only at hu
        split_ifs at hu with hc
        cases hu
        exact ⟨rfl, rfl, rfl, rfl, .inl rfl, .inl rfl, .inl fun n => readX_congr rfl n, .inl rfl,
          .inr (.inl ⟨rfl, hc.1, hc.2, rfl⟩)⟩
    · cases h
  · obtain ⟨h1, h2, rfl⟩ := setContext_next h
    exact ⟨rfl, rfl, rfl, rfl, .inl rfl, .inl rfl, .inl fun n => readX_congr rfl n, .inr ⟨_, rfl, rfl, h1, h2⟩,
      .inl ⟨rfl, .inl rfl⟩⟩
  · cases h
    simp only [writeX_cfg, writeX_text, writeX_rest, writeX_events, writeX_hfgrtr, writeX_mem, writeX_ctx,
      writeX_pstate, writeX_pending, true_or, true_and, and_true]
    exact .inr ⟨_, _, rfl, fun n hn => readX_writeX_ne _ _ hn⟩
  · cases h
    simp only [setExcRegs_cfg, setExcRegs_text, setExcRegs_rest, setExcRegs_events, setExcRegs_hfgrtr, setExcRegs_mem,
      setExcRegs_ctx, setExcRegs_pstate, setExcRegs_pending, true_or, true_and, and_true]
    exact .inl fun n => readX_congr (by simp) n
  · cases h
    exact ⟨rfl, rfl, rfl, rfl, .inl rfl, .inr ⟨_, _, rfl, rfl⟩, .inl fun n => readX_congr rfl n, .inl rfl,
      .inl ⟨rfl, .inl rfl⟩⟩
  · cases h
    exact ⟨rfl, rfl, rfl, rfl, .inr ⟨_, rfl, rfl⟩, .inl rfl, .inl fun n => readX_congr rfl n, .inl rfl,
      .inr (.inr (.inr ⟨_, rfl, rfl, rfl⟩))⟩

/-- A step takes a turn: an input, or the instruction at the pc (R10, R12). -/
theorem step_eq (s : State) :
    step s = match inputNext s with
      | some e => applyRest (afterTurn s) e
      | none => match nextInstr s with
        | .error r => .refused r
        | .ok i => exec i (afterTurn s) := by
  unfold step inputNext instructionStep
  cases hr : s.rest with
  | nil =>
    have : afterTurn s = s := by unfold afterTurn; rw [hr]; cases s; cases hr; rfl
    rewrite [this]
    rfl
  | cons t es =>
    have : afterTurn s = { s with rest := es } := by unfold afterTurn; rw [hr]; rfl
    rw [this]
    cases t <;> rfl

/-- What a step can do when it answers a next state: apply the input that is next, or run the instruction at the pc. -/
theorem step_next {s s' : State} (h : step s = .next s') :
    (∃ e, inputNext s = some e ∧ applyRest (afterTurn s) e = .next s') ∨
      ∃ i, instrAt s = some i ∧ exec i (afterTurn s) = .next s' := by
  rw [step_eq] at h
  unfold instrAt
  cases hn : inputNext s with
  | some e => rw [hn] at h; exact .inl ⟨e, rfl, h⟩
  | none =>
    rw [hn] at h
    cases hi : nextInstr s with
    | error r => rw [hi] at h; cases h
    | ok i => rw [hi] at h; exact .inr ⟨i, rfl, h⟩

end Sys2Proof.Machine
end

