-- ==== Sys2Proof/Tests/Slice0.lean ====
section
/-! SUPPORT. Named tests, whose expected results are written out from spec/95_test_vectors.md and from the tables of R17 and
R61, and a witness for the hypotheses of every obligation that has any. -/

namespace Sys2Proof.Tests

open Sys2Proof.Machine

set_option maxRecDepth 8000

/-! ### Small states -/

/-- The default configuration without EL3. -/
def noEL3 : Config := { defaultConfig with haveEL3 := false }

/-- A state at a level, with a value in the register: the start state of V1 (95). -/
def st (c : Config) (el : EL) (h : Word) : State :=
  { State.resetWith c 0#64 with
    pstate := { el := el, daif := 0b1111#4, sp := true, iset := .a64 }
    hfgrtr := h
    pc := 0x1000#64
    x := (Vector.replicate 31 0#64).set 1 0xAAAAAAAAAAAAAAAA#64 }

/-- The register value of V1: `NOTRAP` with bit 38. -/
def H : Word := 0xFFF4004000000000#64

/-- The value `x[0]` holds in V1w: `NOTRAP` with bit 14. -/
def V : Word := 0xFFF4000000004000#64

/-- A state with its `EffNVx`, and with aligned memory behind it. -/
def nv (n : BitVec 3) (s : State) : State := { s with ctx := { s.ctx with nvx := n, nvBase := 0x80000000#64 } }

/-- A state with `SCR_EL3.FGTEn` set. -/
def fgt (s : State) : State := { s with ctx := { s.ctx with fgten := true } }

/-- A state with `x[0]`. -/
def x0 (v : Word) (s : State) : State := writeX s 0#5 v

/-- A state whose instruction set is A32. -/
def a32 (s : State) : State := { s with pstate := { s.pstate with iset := .a32 } }

/-- The value of a register in the next state of an outcome. -/
def xAfter (o : Host.Outcome State Fault Refusal) (n : BitVec 5) : Option Word := (nextOf o).map (fun s => readX s n)

/-- The register in the next state of an outcome. -/
def hAfter (o : Host.Outcome State Fault Refusal) : Option Word := (nextOf o).map (fun s => s.hfgrtr)

/-- The refusal of an outcome, if it is one. -/
def refusalOf : Host.Outcome State Fault Refusal → Option Refusal
  | .next _ => none
  | .fault _ => none
  | .refused r => some r

/-! ### WellFormed: each check refuses an ill-formed term -/

theorem test_wellFormed_refuses_odd_mrrsRcwmaskEl1 : Instr.wellFormed (.mrrsRcwmaskEl1 1#5) = false := by decide

theorem test_wellFormed_refuses_odd_mrrsTtbr1El1 : Instr.wellFormed (.mrrsTtbr1El1 1#5) = false := by decide

theorem test_wellFormed_refuses_odd_mrrsTtbr0El1 : Instr.wellFormed (.mrrsTtbr0El1 1#5) = false := by decide

theorem test_wellFormed_refuses_odd_mrrsParEl1 : Instr.wellFormed (.mrrsParEl1 1#5) = false := by decide

/-- And the decoder refuses the word with the odd first register by name (R60). -/
theorem test_decode_refuses_oddPair : decode .a64 [0x01#8, 0x20#8, 0x78#8, 0xD5#8] = .error .oddPair := by rfl

/-! ### Decoding: a word of every row, written from R59, R60 and R61 -/

theorem test_decode_rows_1 :
    ([
      (0xD53C1185, Instr.mrsHfgrtrEl2 5#5),
      (0xD51C1185, Instr.msrHfgrtrEl2 5#5),
      (0xD538A325, Instr.mrsAmair2El1 5#5),
      (0xD538A225, Instr.mrsMair2El1 5#5),
      (0xD538A2A5, Instr.mrsS2porEl1 5#5),
      (0xD538A285, Instr.mrsPorEl1 5#5),
      (0xD53BA285, Instr.mrsPorEl0 5#5),
      (0xD538A265, Instr.mrsPirEl1 5#5),
      (0xD538A245, Instr.mrsPire0El1 5#5),
      (0xD538D0C5, Instr.mrsRcwmaskEl1 5#5),
      (0xD53BD0A5, Instr.mrsTpidr2El0 5#5),
      (0xD5381285, Instr.mrsSmpriEl1 5#5),
      (0xD5382505, Instr.mrsGcscrEl1 5#5),
      (0xD5382525, Instr.mrsGcsprEl1 5#5)] : List (Nat × Instr)).all (fun p => decodeTableWord 32 p.1 == some p.2) = true := by decide

theorem test_decode_rows_2 :
    ([
      (0xD5382545, Instr.mrsGcscre0El1 5#5),
      (0xD53B2525, Instr.mrsGcsprEl0 5#5),
      (0xD538D0A5, Instr.mrsAccdataEl1 5#5),
      (0xD5385465, Instr.mrsErxaddrEl1 5#5),
      (0xD53854C5, Instr.mrsErxpfgcdnEl1 5#5),
      (0xD53854A5, Instr.mrsErxpfgctlEl1 5#5),
      (0xD5385485, Instr.mrsErxpfgfEl1 5#5),
      (0xD5385505, Instr.mrsErxmisc0El1 5#5),
      (0xD5385525, Instr.mrsErxmisc1El1 5#5),
      (0xD5385545, Instr.mrsErxmisc2El1 5#5),
      (0xD5385565, Instr.mrsErxmisc3El1 5#5),
      (0xD5385445, Instr.mrsErxstatusEl1 5#5),
      (0xD5385425, Instr.mrsErxctlrEl1 5#5),
      (0xD5385405, Instr.mrsErxfrEl1 5#5)] : List (Nat × Instr)).all (fun p => decodeTableWord 32 p.1 == some p.2) = true := by decide

theorem test_decode_rows_3 :
    ([
      (0xD5385325, Instr.mrsErrselrEl1 5#5),
      (0xD5385305, Instr.mrsErridrEl1 5#5),
      (0xD538CCC5, Instr.mrsIccIgrpen0El1 5#5),
      (0xD538CCE5, Instr.mrsIccIgrpen1El1 5#5),
      (0xD538C005, Instr.mrsVbarEl1 5#5),
      (0xD5382025, Instr.mrsTtbr1El1 5#5),
      (0xD5382005, Instr.mrsTtbr0El1 5#5),
      (0xD53BD045, Instr.mrsTpidrEl0 5#5),
      (0xD53BD065, Instr.mrsTpidrroEl0 5#5),
      (0xD538D085, Instr.mrsTpidrEl1 5#5),
      (0xD5382045, Instr.mrsTcrEl1 5#5),
      (0xD5382065, Instr.mrsTcr2El1 5#5),
      (0xD53BD0E5, Instr.mrsScxtnumEl0 5#5),
      (0xD538D0E5, Instr.mrsScxtnumEl1 5#5)] : List (Nat × Instr)).all (fun p => decodeTableWord 32 p.1 == some p.2) = true := by decide

theorem test_decode_rows_4 :
    ([
      (0xD5381005, Instr.mrsSctlrEl1 5#5),
      (0xD5381065, Instr.mrsSctlr2El1 5#5),
      (0xD53800C5, Instr.mrsRevidrEl1 5#5),
      (0xD5387405, Instr.mrsParEl1 5#5),
      (0xD53800A5, Instr.mrsMpidrEl1 5#5),
      (0xD5380005, Instr.mrsMidrEl1 5#5),
      (0xD538A205, Instr.mrsMairEl1 5#5),
      (0xD538A405, Instr.mrsLorsaEl1 5#5),
      (0xD538A445, Instr.mrsLornEl1 5#5),
      (0xD538A4E5, Instr.mrsLoridEl1 5#5),
      (0xD538A425, Instr.mrsLoreaEl1 5#5),
      (0xD538A465, Instr.mrsLorcEl1 5#5),
      (0xD538C105, Instr.mrsIsrEl1 5#5),
      (0xD5386005, Instr.mrsFarEl1 5#5)] : List (Nat × Instr)).all (fun p => decodeTableWord 32 p.1 == some p.2) = true := by decide

theorem test_decode_rows_5 :
    ([
      (0xD5385205, Instr.mrsEsrEl1 5#5),
      (0xD53B00E5, Instr.mrsDczidEl0 5#5),
      (0xD53B0025, Instr.mrsCtrEl0 5#5),
      (0xD53A0005, Instr.mrsCsselrEl1 5#5),
      (0xD5381045, Instr.mrsCpacrEl1 5#5),
      (0xD538D025, Instr.mrsContextidrEl1 5#5),
      (0xD5390025, Instr.mrsClidrEl1 5#5),
      (0xD5390005, Instr.mrsCcsidrEl1 5#5),
      (0xD5382165, Instr.mrsApibKeyHiEl1 5#5),
      (0xD5382145, Instr.mrsApibKeyLoEl1 5#5),
      (0xD5382125, Instr.mrsApiaKeyHiEl1 5#5),
      (0xD5382105, Instr.mrsApiaKeyLoEl1 5#5),
      (0xD5382325, Instr.mrsApgaKeyHiEl1 5#5),
      (0xD5382305, Instr.mrsApgaKeyLoEl1 5#5)] : List (Nat × Instr)).all (fun p => decodeTableWord 32 p.1 == some p.2) = true := by decide

theorem test_decode_rows_6 :
    ([
      (0xD5382265, Instr.mrsApdbKeyHiEl1 5#5),
      (0xD5382245, Instr.mrsApdbKeyLoEl1 5#5),
      (0xD5382225, Instr.mrsApdaKeyHiEl1 5#5),
      (0xD5382205, Instr.mrsApdaKeyLoEl1 5#5),
      (0xD538A305, Instr.mrsAmairEl1 5#5),
      (0xD53900E5, Instr.mrsAidrEl1 5#5),
      (0xD5385125, Instr.mrsAfsr1El1 5#5),
      (0xD5385105, Instr.mrsAfsr0El1 5#5),
      (0xD578D0C6, Instr.mrrsRcwmaskEl1 6#5),
      (0xD5782026, Instr.mrrsTtbr1El1 6#5),
      (0xD5782006, Instr.mrrsTtbr0El1 6#5),
      (0xD5787406, Instr.mrrsParEl1 6#5),
      (0xEE1D3F50, Instr.mrcTpidrurw 14#4 3#4),
      (0xEE1D3F70, Instr.mrcTpidruro 14#4 3#4)] : List (Nat × Instr)).all (fun p => decodeTableWord 32 p.1 == some p.2) = true := by decide

/-- V4.3, V4.5: register number 31. -/
theorem test_V4_xzr : decodeTableWord 32 0xD53C119F = some (.mrsHfgrtrEl2 31#5) ∧
    decodeTableWord 32 0xD51C119F = some (.msrHfgrtrEl2 31#5) := by decide

/-- V4.6, V4.7, V3.12: other points of the encoding space, and a write of a trapped register, are refused. -/
theorem test_V4_other_points : decodeTableWord 32 0xD53C11A0 = none ∧ decodeTableWord 32 0xD53C1080 = none ∧
    decodeTableWord 32 0xD518C000 = none := by decide

/-- V4.13: the bytes of a word in memory order. -/
theorem test_V4_bytes : decode .a64 [0x81#8, 0x11#8, 0x3C#8, 0xD5#8] = .ok (.mrsHfgrtrEl2 1#5, []) := by rfl

/-- R60: the T32 form of an `MRC`, two little-endian halfwords, the first holding bits 31:16. -/
theorem test_thumb_bytes : decode .t32 [0x1D#8, 0xEE#8, 0x50#8, 0x0F#8] = .ok (.mrcTpidrurw 14#4 0#4, []) := by rfl

/-! ### The accessors: V1, V1w, V5 -/

theorem test_V1_1 : mrsHfgrtrResult (st { noEL3 with haveFGT := false } .el3 H) 1#5 = .raise .undefined := by decide

theorem test_V1_2 : mrsHfgrtrResult (st noEL3 .el0 H) 1#5 = .raise .undefined := by decide

theorem test_V1_3_to_8 :
    ([0b000#3, 0b010#3, 0b100#3, 0b110#3].all (fun n =>
      mrsHfgrtrResult (nv n (st noEL3 .el1 H)) 1#5 == .raise .undefined)) = true ∧
    ([0b001#3, 0b011#3].all (fun n =>
      mrsHfgrtrResult (nv n (st noEL3 .el1 H)) 1#5 == .raise (.trap .el2 0x18#6))) = true := by decide

theorem test_V1_11 : mrsHfgrtrResult
    { nv 0b101#3 (st noEL3 .el1 H) with ctx := { (nv 0b101#3 (st noEL3 .el1 H)).ctx with nvAbort := true } } 1#5 =
      .nvMemAbort := by decide

theorem test_V1_12_to_14 :
    mrsHfgrtrResult { st defaultConfig .el2 H with ctx := { resetContext with sddUndef := true, sddUndefPriority := true } }
      1#5 = .raise .undefined ∧
    mrsHfgrtrResult { st defaultConfig .el2 H with ctx := { resetContext with sddUndef := true } } 1#5 =
      .raise .undefined ∧
    mrsHfgrtrResult (st defaultConfig .el2 H) 1#5 = .raise (.trap .el3 0x18#6) := by decide

theorem test_V1_15_17_19 :
    ([fgt (st defaultConfig .el2 H), st noEL3 .el2 H, st defaultConfig .el3 H].all (fun s =>
      xAfter (exec (.mrsHfgrtrEl2 1#5) s) 1#5 == some 0xFFF4004000000000#64)) = true := by decide

theorem test_V1_20 : xAfter (exec (.mrsHfgrtrEl2 1#5) (st { defaultConfig with haveEL2 := false } .el3 H)) 1#5 =
    some 0#64 := by decide

theorem test_V1_21 : xAfter (exec (.mrsHfgrtrEl2 31#5) (st noEL3 .el2 H)) 1#5 = some 0xAAAAAAAAAAAAAAAA#64 := by decide

theorem test_V1w_9 : msrHfgrtrResult (x0 V (st defaultConfig .el2 H)) 0#5 = .raise (.trap .el3 0x18#6) := by decide

theorem test_V1w_10 : (nextOf (exec (.msrHfgrtrEl2 0#5) (x0 V (fgt (st defaultConfig .el2 H))))).map
    (fun s => (s.hfgrtr, s.pending, s.pc)) = some (V, some H, 0x1004#64) := by decide

theorem test_V1w_13 : hAfter (exec (.msrHfgrtrEl2 31#5) (x0 V (st noEL3 .el2 H))) = some 0#64 := by decide

theorem test_V1w_14_to_16 :
    ([(noEL3, 0xFFF7FFFFFFFFFFFF#64), ({ noEL3 with res0Stored := true }, 0xFFFFFFFFFFFFFFFF#64),
      ({ noEL3 with absent := [.nTpidr2El0, .nSmpriEl1] }, 0xFF37FFFFFFFFFFFF#64)] : List (Config × Word)).all
      (fun p => hAfter (exec (.msrHfgrtrEl2 0#5) (x0 0xFFFFFFFFFFFFFFFF#64 (st p.1 .el2 H))) == some p.2) = true := by decide

/-- V5: the bytes of the location, in both byte orders. -/
theorem test_V5 :
    (nextOf (exec (.msrHfgrtrEl2 0#5) (x0 0x0123456789ABCDEF#64 (nv 0b101#3 (st noEL3 .el1 H))))).map (fun s => s.mem) =
      some [(0x800001B8, 0xEF#8), (0x800001B9, 0xCD#8), (0x800001BA, 0xAB#8), (0x800001BB, 0x89#8),
        (0x800001BC, 0x67#8), (0x800001BD, 0x45#8), (0x800001BE, 0x23#8), (0x800001BF, 0x01#8)] ∧
    byteOf true 0x0123456789ABCDEF#64 0 = 0x01#8 ∧ byteOf true 0x0123456789ABCDEF#64 7 = 0xEF#8 := by decide

/-- R52: the access of V5.1 is recorded as one event. -/
theorem test_R52_event :
    (nextOf (exec (.msrHfgrtrEl2 0#5) (x0 0x0123456789ABCDEF#64 (nv 0b101#3 (st noEL3 .el1 H))))).map (fun s => s.events) =
      some [{ performer := .pe, address := 0x800001B8#64, size := 8, value := 0x0123456789ABCDEF#64, direction := .write }] := by decide

/-- R48, D12: with `NVBase` off alignment the state is refused, for an instruction that does not use it too. -/
theorem test_R48_refused : refusalOf (exec (.mrsHfgrtrEl2 1#5)
    { st noEL3 .el2 H with ctx := { resetContext with nvBase := 4#64 } }) = some .nvBaseMisaligned := by decide

/-! ### Reads: V2, one vector per field -/

/-- A read at EL1 using AArch64. -/
def rd (reg : SysReg) : Read := { kind := .mrs, reg := reg, el := .el1, iset := .a64 }

/-- The outcome of V2: the trap with the register of the vector, and none with `NOTRAP`. -/
def v2 (p : Word × SysReg) : Bool :=
  readResult (st noEL3 .el1 p.1) (rd p.2) == .raise (.trap .el2 0x18#6) &&
    readResult (st noEL3 .el1 0xFFF4000000000000#64) (rd p.2) == .notThisHardware

theorem test_V2_from_1 : ([
      (0x7FF4000000000000#64, .amair2El1),
      (0xBFF4000000000000#64, .mair2El1),
      (0xDFF4000000000000#64, .s2porEl1),
      (0xEFF4000000000000#64, .porEl1),
      (0xF7F4000000000000#64, .porEl0),
      (0xFBF4000000000000#64, .pirEl1),
      (0xFDF4000000000000#64, .pire0El1),
      (0xFEF4000000000000#64, .rcwmaskEl1),
      (0xFF74000000000000#64, .tpidr2El0),
      (0xFFB4000000000000#64, .smpriEl1),
      (0xFFD4000000000000#64, .gcscrEl1),
      (0xFFE4000000000000#64, .gcscre0El1),
      (0xFFF0000000000000#64, .accdataEl1),
      (0xFFF6000000000000#64, .erxaddrEl1),
      (0xFFF5000000000000#64, .erxpfgcdnEl1),
      (0xFFF4800000000000#64, .erxpfgctlEl1)] : List (Word × SysReg)).all v2 = true := by decide

theorem test_V2_from_17 : ([
      (0xFFF4400000000000#64, .erxpfgfEl1),
      (0xFFF4200000000000#64, .erxmisc0El1),
      (0xFFF4100000000000#64, .erxstatusEl1),
      (0xFFF4080000000000#64, .erxctlrEl1),
      (0xFFF4040000000000#64, .erxfrEl1),
      (0xFFF4020000000000#64, .errselrEl1),
      (0xFFF4010000000000#64, .erridrEl1),
      (0xFFF4008000000000#64, .iccIgrpen0El1),
      (0xFFF4004000000000#64, .vbarEl1),
      (0xFFF4002000000000#64, .ttbr1El1),
      (0xFFF4001000000000#64, .ttbr0El1),
      (0xFFF4000800000000#64, .tpidrEl0),
      (0xFFF4000400000000#64, .tpidrroEl0),
      (0xFFF4000200000000#64, .tpidrEl1),
      (0xFFF4000100000000#64, .tcrEl1),
      (0xFFF4000080000000#64, .scxtnumEl0)] : List (Word × SysReg)).all v2 = true := by decide

theorem test_V2_from_33 : ([
      (0xFFF4000040000000#64, .scxtnumEl1),
      (0xFFF4000020000000#64, .sctlrEl1),
      (0xFFF4000010000000#64, .revidrEl1),
      (0xFFF4000008000000#64, .parEl1),
      (0xFFF4000004000000#64, .mpidrEl1),
      (0xFFF4000002000000#64, .midrEl1),
      (0xFFF4000001000000#64, .mairEl1),
      (0xFFF4000000800000#64, .lorsaEl1),
      (0xFFF4000000400000#64, .lornEl1),
      (0xFFF4000000200000#64, .loridEl1),
      (0xFFF4000000100000#64, .loreaEl1),
      (0xFFF4000000080000#64, .lorcEl1),
      (0xFFF4000000040000#64, .isrEl1),
      (0xFFF4000000020000#64, .farEl1),
      (0xFFF4000000010000#64, .esrEl1),
      (0xFFF4000000008000#64, .dczidEl0)] : List (Word × SysReg)).all v2 = true := by decide

theorem test_V2_from_49 : ([
      (0xFFF4000000004000#64, .ctrEl0),
      (0xFFF4000000002000#64, .csselrEl1),
      (0xFFF4000000001000#64, .cpacrEl1),
      (0xFFF4000000000800#64, .contextidrEl1),
      (0xFFF4000000000400#64, .clidrEl1),
      (0xFFF4000000000200#64, .ccsidrEl1),
      (0xFFF4000000000100#64, .apibKeyHiEl1),
      (0xFFF4000000000080#64, .apiaKeyHiEl1),
      (0xFFF4000000000040#64, .apgaKeyHiEl1),
      (0xFFF4000000000020#64, .apdbKeyHiEl1),
      (0xFFF4000000000010#64, .apdaKeyHiEl1),
      (0xFFF4000000000008#64, .amairEl1),
      (0xFFF4000000000004#64, .aidrEl1),
      (0xFFF4000000000002#64, .afsr1El1),
      (0xFFF4000000000001#64, .afsr0El1)] : List (Word × SysReg)).all v2 = true := by decide

/-! ### Gating and corners: V3 -/

/-- The register of most of V3: `NOTRAP` with bit 38. -/
theorem test_V3_1_to_4 :
    readResult (st defaultConfig .el1 ALLTRAP) (rd .vbarEl1) = .notThisHardware ∧
    readResult { st noEL3 .el1 ALLTRAP with ctx := { resetContext with el2Enabled := false } } (rd .vbarEl1) =
      .notThisHardware ∧
    readResult (st noEL3 .el1 H) (rd .vbarEl1) = .raise (.trap .el2 0x18#6) := by decide

theorem test_V3_7_to_9 :
    readResult { st noEL3 .el0 V with ctx := { resetContext with e2hTge := 0b11#2 } } { rd .ctrEl0 with el := .el0 } =
      .notThisHardware ∧
    ([0b00#2, 0b01#2, 0b10#2].all (fun w =>
      readResult { st noEL3 .el0 V with ctx := { resetContext with e2hTge := w } } { rd .ctrEl0 with el := .el0 } ==
        .raise (.trap .el2 0x18#6))) = true ∧
    readResult { st noEL3 .el1 H with ctx := { resetContext with e2hTge := 0b11#2 } } (rd .vbarEl1) =
      .raise (.trap .el2 0x18#6) := by decide

theorem test_V3_10_11 :
    ([EL.el0, EL.el2, EL.el3].all (fun el =>
      readResult (st noEL3 el H) { rd .vbarEl1 with el := el } == .notThisHardware)) = true := by decide

theorem test_V3_13 :
    readResult { st noEL3 .el1 H with ctx := { resetContext with higherPriority := [(rd .midrEl1, .trap .el3 0x18#6), (rd .vbarEl1, .undefined)] } }
      (rd .vbarEl1) = .raise .undefined ∧
    readResult { st noEL3 .el1 H with ctx := { resetContext with higherPriority := [(rd .midrEl1, .undefined)] } }
      (rd .vbarEl1) = .raise (.trap .el2 0x18#6) := by decide

theorem test_V3_14 : readResult (st noEL3 .el1 0xFFF4001000000000#64) { rd .ttbr0El1 with kind := .mrrs } =
    .raise (.trap .el2 0x18#6) := by decide

/-- V3.15 to V3.17: the `MRC` read, at EL0 and EL1, and with EL1 using AArch32. -/
theorem test_V3_15_to_17 :
    readResult (st noEL3 .el0 0xFFF4000800000000#64) { kind := .mrc, reg := .tpidrurw, el := .el0, iset := .a32 } =
      .raise (.trap .el2 0x03#6) ∧
    readResult { st noEL3 .el0 0xFFF4000800000000#64 with ctx := { resetContext with el1A64 := false } }
      { kind := .mrc, reg := .tpidrurw, el := .el0, iset := .a32 } = .notThisHardware ∧
    readResult (st noEL3 .el1 0xFFF4000800000000#64) { kind := .mrc, reg := .tpidrurw, el := .el1, iset := .a32 } =
      .notThisHardware := by decide

/-- R171, D33: while EL1 is using AArch32 no read is covered, an `MRS` at EL1 or EL0 among them. -/
theorem test_R171_none_covered :
    readResult { st noEL3 .el1 H with ctx := { resetContext with el1A64 := false } } (rd .vbarEl1) = .notThisHardware ∧
    readResult { st noEL3 .el0 V with ctx := { resetContext with el1A64 := false } } { rd .ctrEl0 with el := .el0 } =
      .notThisHardware := by decide

theorem test_V3_23 : readResult (st { noEL3 with absent := [.nTpidr2El0] } .el0 0#64)
    { rd .tpidr2El0 with el := .el0 } = .notThisHardware := by decide

/-! ### Exceptions and steps -/

/-- R162's worked value: `MRS X1, HFGRTR_EL2` at EL1 with NV reports 0x62390423 in `ESR_EL2`, and R163's vector offset. -/
theorem test_R162_syndrome :
    (nextOf (exec (.mrsHfgrtrEl2 1#5) (nv 0b001#3 (st noEL3 .el1 H)))).map (fun s => (s.exc2.esr, s.exc2.elr, s.pc)) =
      some (0x62390423#64, 0x1000#64, 0x400#64) := by decide

/-- P2: the step of a placed word, here the trapped `MRS X2, VBAR_EL1`. -/
theorem test_P2_step :
    (nextOf (step ((fgt (st defaultConfig .el1 H)).withFetchWord 32 0xD538C002))).map
      (fun s => (s.pstate.el, s.exc2.elr)) = some (.el2, 0x1000#64) := by decide

/-- The first step after reset of a placed `MSR HFGRTR_EL2, X0`. -/
theorem test_first_step_after_reset :
    (nextOf (step (State.reset.withFetchWord 32 0xD51C1180))).map (fun s => s.pc) = some 4#64 := by decide

theorem test_defaultConfig_wf : defaultConfig.Wf := by decide

theorem test_reset_inv : State.reset.Inv := by decide

/-! ### Witnesses: a state and operands that meet the hypotheses of each obligation -/

/-- A state at EL2 with the word of `MRS X1, HFGRTR_EL2` at the pc. -/
def atMrs : State := (st noEL3 .el2 H).withFetchWord 32 0xD53C1181

/-- A state with `MSR HFGRTR_EL2, X0` at the pc, and a value in `x[0]` that is not the register's. -/
def atMsr (el : EL) : State := (x0 V (nv 0b101#3 (st noEL3 el H))).withFetchWord 32 0xD51C1180

/-- A context with one answer changed. -/
def ctx (s : State) (f : Context → Context) : State := { s with ctx := f s.ctx }

theorem exists_next {o : Host.Outcome State Fault Refusal} (h : (nextOf o).isSome = true) : ∃ s, o = .next s := by
  cases o <;> first | exact ⟨_, rfl⟩ | cases h

theorem witness_DecodeOfEncodeIsTheInstruction :
    Instr.wellFormed (.mrsVbarEl1 31#5) = true ∧ Instr.wellFormed (.mrrsParEl1 30#5) = true ∧
      Instr.wellFormed (.mrcTpidruro 0#4 15#4) = true := by decide

theorem witness_DecodedBytesAreTheEncoding :
    decode .a64 [0x81#8, 0x11#8, 0x3C#8, 0xD5#8, 0#8] = .ok (.mrsHfgrtrEl2 1#5, [0#8]) ∧
      decode .a32 [0x50#8, 0xFF#8, 0x1D#8, 0x0E#8] = .ok (.mrcTpidrurw 0#4 15#4, []) ∧
      decode .t32 [0x1D#8, 0xEE#8, 0x70#8, 0x0F#8] = .ok (.mrcTpidruro 14#4 0#4, []) := ⟨rfl, rfl, rfl⟩

theorem witness_ThumbDecodeOfEncodeIsTheInstruction :
    Instr.mrcTpidruro 14#4 15#4 = .mrcTpidrurw 0b1110#4 15#4 ∨ Instr.mrcTpidruro 14#4 15#4 = .mrcTpidruro 0b1110#4 15#4 := .inr rfl

theorem witness_TableWordIsItsInstruction :
    Instr.wellFormed (.mrrsTtbr0El1 0#5) = true := by decide

theorem witness_StepRunsTheDecodedInstruction :
    inputNext atMrs = none ∧ atMrs.rest = [] ∧ inputNext { atMrs with rest := [.instruction] } = none ∧ pcAligned atMrs = true ∧ fetchBytes atMrs = some [0x81#8, 0x11#8, 0x3C#8, 0xD5#8] ∧
      decode atMrs.pstate.iset [0x81#8, 0x11#8, 0x3C#8, 0xD5#8] = .ok (.mrsHfgrtrEl2 1#5, []) := ⟨by decide, by decide, by decide, by decide, by decide, rfl⟩

/-- An instruction, a change of context and an instruction, in turn: the input falls between the two. -/
theorem witness_TurnsAreTakenInOrder :
    inputNext { atMrs with rest := [.input .contextSync] } = some .contextSync ∧
      (nextOf (step { atMrs with rest := [.instruction, .input (.setContext resetContext), .instruction] })).map
        (fun s => (s.rest, (nextOf (step s)).isSome)) = some ([.input (.setContext resetContext), .instruction], true) := by decide

theorem witness_PlacedWordIsTheNextStep :
    Instr.wellFormed (.mrcTpidrurw 0b1110#4 3#4) = true ∧ (st noEL3 .el0 H).pc.toNat % 4 = 0 := by decide

/-- No instruction is encoded with a zero byte at its third place in memory order. -/
theorem third_byte_ne_zero (i : Instr) : ([0#8, 0#8, 0#8, 0#8] : List Byte) ≠ encode i ∧
    ([0#8, 0#8, 0#8, 0#8] : List Byte) ≠ encodeT32 i := by
  cases i <;> rename_i t <;> first | (revert t; decide) | (rename_i c; revert t c; decide)

theorem witness_OtherWordsAreRefused :
    inputNext ((st noEL3 .el2 H).withFetchWord 32 0) = none ∧ pcAligned ((st noEL3 .el2 H).withFetchWord 32 0) = true ∧
      fetchBytes ((st noEL3 .el2 H).withFetchWord 32 0) = some [0#8, 0#8, 0#8, 0#8] ∧
      ∀ i : Instr, i.wellFormed = true → ([0#8, 0#8, 0#8, 0#8] : List Byte) ≠ encode i ∧
        ([0#8, 0#8, 0#8, 0#8] : List Byte) ≠ encodeT32 i := ⟨by decide, by decide, by decide, fun i _ => third_byte_ne_zero i⟩

theorem witness_MrsChain :
    (st { noEL3 with haveFGT := false } .el3 H).cfg.haveFGT = false ∧
      (st noEL3 .el0 H).cfg.haveFGT = true ∧ (st noEL3 .el0 H).pstate.el = .el0 ∧
      (nvMatches1x1 (nv 0b111#3 (st noEL3 .el1 H)) = true ∧ nvMemReady (nv 0b111#3 (st noEL3 .el1 H))) ∧
      (nvMatches1x1 (nv 0b011#3 (st noEL3 .el1 H)) = false ∧ nvMatchesxx1 (nv 0b011#3 (st noEL3 .el1 H)) = true) ∧
      nvMatchesxx1 (nv 0b110#3 (st noEL3 .el1 H)) = false ∧
      el3SDDUndef (ctx (st defaultConfig .el2 H) (fun c => { c with sddUndef := true })) = true ∧
      (st defaultConfig .el2 H).cfg.haveEL3 = true ∧ (st defaultConfig .el2 H).ctx.fgten = false ∧
      el3SDDUndef (st defaultConfig .el2 H) = false ∧ gateOpen (st noEL3 .el2 H) ∧
      gateOpen (fgt (st defaultConfig .el2 H)) ∧ (st noEL3 .el3 H).pstate.el = .el3 := by decide

theorem witness_MsrChain :
    (st { noEL3 with haveFGT := false } .el3 H).cfg.haveFGT = false ∧
      (st noEL3 .el0 H).cfg.haveFGT = true ∧ (st noEL3 .el0 H).pstate.el = .el0 ∧
      (nvMatches1x1 (nv 0b111#3 (st noEL3 .el1 H)) = true ∧ nvMemReady (nv 0b111#3 (st noEL3 .el1 H))) ∧
      (nvMatches1x1 (nv 0b011#3 (st noEL3 .el1 H)) = false ∧ nvMatchesxx1 (nv 0b011#3 (st noEL3 .el1 H)) = true) ∧
      nvMatchesxx1 (nv 0b110#3 (st noEL3 .el1 H)) = false ∧
      el3SDDUndef (ctx (st defaultConfig .el2 H) (fun c => { c with sddUndef := true })) = true ∧
      (st defaultConfig .el2 H).cfg.haveEL3 = true ∧ (st defaultConfig .el2 H).ctx.fgten = false ∧
      el3SDDUndef (st defaultConfig .el2 H) = false ∧ gateOpen (st noEL3 .el2 H) ∧
      gateOpen (fgt (st defaultConfig .el2 H)) ∧ (st noEL3 .el3 H).pstate.el = .el3 := by decide

theorem witness_AccessorBelowEL2CannotSeeTheRegister :
    (st noEL3 .el0 H).pstate.el = .el0 ∧ (nv 0b101#3 (st noEL3 .el1 H)).pstate.el = .el1 ∧
      (nextOf (exec (.mrsHfgrtrEl2 1#5) (nv 0b101#3 (st noEL3 .el1 H)))).isSome = true := by decide

theorem witness_MrsCompletesWithTheRegister :
    (st noEL3 .el1 H).Wf ∧ noEL3.haveFGT = true ∧ reachesRegister (st noEL3 .el2 H) ∧
      reachesRegister (fgt (st defaultConfig .el2 H)) ∧ reachesRegister (st defaultConfig .el3 H) ∧
      pcHasRoom (st noEL3 .el2 H) ∧ noEL3.haveEL2 = true ∧ noEL3.featOf .vbarEl1 = true ∧ noEL3.res0Stored = false ∧
      (∀ f ∈ Field.all, noEL3.bitOf f ≠ 51) ∧ (st { noEL3 with res0Stored := true } .el1 H).Wf := by decide

theorem witness_MsrCompletesInTheRegister :
    (st noEL3 .el1 H).Wf ∧ noEL3.haveFGT = true ∧ reachesRegister (st noEL3 .el2 H) ∧
      reachesRegister (fgt (st defaultConfig .el2 H)) ∧ reachesRegister (st defaultConfig .el3 H) ∧
      pcHasRoom (st noEL3 .el2 H) ∧ noEL3.haveEL2 = true ∧ noEL3.featOf .vbarEl1 = true ∧ noEL3.res0Stored = false ∧
      (∀ f ∈ Field.all, noEL3.bitOf f ≠ 51) ∧ (st { noEL3 with res0Stored := true } .el1 H).Wf := by decide

theorem witness_RedirectedMrsReadsMemory :
    (nv 0b101#3 (st noEL3 .el1 H)).Wf ∧ noEL3.haveFGT = true ∧ redirected (nv 0b101#3 (st noEL3 .el1 H)) ∧
      nvMemReady (nv 0b101#3 (st noEL3 .el1 H)) ∧ pcHasRoom (nv 0b101#3 (st noEL3 .el1 H)) ∧
      outsideNVMem (nv 0b101#3 (st noEL3 .el1 H)) 0x800001B7 ∧ outsideNVMem (nv 0b101#3 (st noEL3 .el1 H)) 0x800001C0 := by decide

theorem witness_RedirectedMsrStoresEightBytes :
    (nv 0b101#3 (st noEL3 .el1 H)).Wf ∧ noEL3.haveFGT = true ∧ redirected (nv 0b101#3 (st noEL3 .el1 H)) ∧
      nvMemReady (nv 0b101#3 (st noEL3 .el1 H)) ∧ pcHasRoom (nv 0b101#3 (st noEL3 .el1 H)) ∧
      outsideNVMem (nv 0b101#3 (st noEL3 .el1 H)) 0x800001B7 ∧ outsideNVMem (nv 0b101#3 (st noEL3 .el1 H)) 0x800001C0 := by decide

theorem witness_RegisterReadsBackWhatWasWritten :
    (st noEL3 .el1 H).Wf ∧ noEL3.haveFGT = true ∧ noEL3.haveEL2 = true ∧ reachesRegister (st noEL3 .el2 H) ∧
      (st noEL3 .el2 H).pc.toNat + 12 < 2 ^ 64 ∧ (30#5 : BitVec 5) ≠ 31#5 ∧ noEL3.featOf .nAmair2El1 = true ∧
      (st { noEL3 with res0Stored := true } .el1 H).Wf := by decide

theorem witness_RedirectedReadsBackWhatWasStored :
    (nv 0b101#3 (st noEL3 .el1 H)).Wf ∧ noEL3.haveFGT = true ∧ redirected (nv 0b111#3 (st noEL3 .el1 H)) ∧
      nvMemReady (nv 0b111#3 (st noEL3 .el1 H)) ∧ (nv 0b111#3 (st noEL3 .el1 H)).pc.toNat + 8 < 2 ^ 64 ∧
      (0#5 : BitVec 5) ≠ 31#5 := by decide

theorem witness_WithoutEL2TheRegisterIsRES0 :
    (st { defaultConfig with haveEL2 := false } .el1 H).Wf ∧
      (st { defaultConfig with haveEL2 := false } .el3 H).cfg.haveEL2 = false ∧ defaultConfig.haveFGT = true ∧
      defaultConfig.res0Stored = false ∧ ({ defaultConfig with haveEL2 := false, res0Stored := true } : Config).res0Stored = true ∧
      (st { defaultConfig with haveEL2 := false, res0Stored := true } .el3 H).Wf ∧ pcHasRoom (st { defaultConfig with haveEL2 := false } .el3 H) := by decide

theorem witness_AccessorFrame :
    ∃ s1 s2 s3, exec (.mrsHfgrtrEl2 1#5) (st noEL3 .el2 H) = .next s1 ∧
      exec (.msrHfgrtrEl2 1#5) (nv 0b101#3 (st noEL3 .el1 H)) = .next s2 ∧
      exec (.msrHfgrtrEl2 1#5) (st noEL3 .el0 H) = .next s3 := by
  obtain ⟨s1, h1⟩ := exists_next (o := exec (.mrsHfgrtrEl2 1#5) (st noEL3 .el2 H)) (by decide)
  obtain ⟨s2, h2⟩ := exists_next (o := exec (.msrHfgrtrEl2 1#5) (nv 0b101#3 (st noEL3 .el1 H))) (by decide)
  obtain ⟨s3, h3⟩ := exists_next (o := exec (.msrHfgrtrEl2 1#5) (st noEL3 .el0 H)) (by decide)
  exact ⟨s1, s2, s3, h1, h2, h3⟩

theorem witness_TrappedAccessorEntersTheException :
    (st noEL3 .el1 H).Wf ∧ noEL3.haveFGT = true ∧ nvMatches1x1 (nv 0b001#3 (st noEL3 .el1 H)) = false ∧
      nvMatchesxx1 (nv 0b001#3 (st noEL3 .el1 H)) = true ∧ (st defaultConfig .el1 H).Wf ∧ defaultConfig.haveEL3 = true ∧
      (st defaultConfig .el2 H).ctx.fgten = false ∧ el3SDDUndef (st defaultConfig .el2 H) = false := by decide

theorem witness_SyndromeOfTheWorkedExample :
    noEL3.haveFGT = true ∧ (nv 0b001#3 (st noEL3 .el1 H)).pstate.el = .el1 ∧
      nvMatches1x1 (nv 0b001#3 (st noEL3 .el1 H)) = false ∧ nvMatchesxx1 (nv 0b001#3 (st noEL3 .el1 H)) = true ∧
      (nextOf (exec (.mrsHfgrtrEl2 1#5) (nv 0b001#3 (st noEL3 .el1 H)))).isSome = true := by decide

theorem witness_UndefinedAccessorEntersTheException :
    (st { noEL3 with haveFGT := false } .el1 H).Wf ∧ (st noEL3 .el1 H).Wf ∧ (st defaultConfig .el1 H).Wf ∧ (st noEL3 .el0 H).ctx.el1A64 = true ∧
      levelImplemented noEL3 .el0 = true ∧ levelImplemented defaultConfig .el2 = true ∧
      nvMatchesxx1 (nv 0b010#3 (st noEL3 .el1 H)) = false ∧ defaultConfig.haveEL3 = true ∧
      (st defaultConfig .el2 H).ctx.fgten = false ∧
      el3SDDUndef (ctx (st defaultConfig .el2 H) (fun c => { c with sddUndef := true })) = true ∧
      (effE2hTge (st noEL3 .el0 H)).getLsbD 0 = false ∧
      (effE2hTge (ctx (st noEL3 .el0 H) (fun c => { c with e2hTge := 0b01#2 }))).getLsbD 0 = true := by decide

theorem witness_WhereAnAccessorStops :
    noEL3.Wf ∧ noEL3.haveFGT = true ∧ redirected (nv 0b101#3 (st noEL3 .el1 H)) ∧
      (ctx (st noEL3 .el2 H) (fun c => { c with nvBase := 4#64 })).ctx.nvBase.toNat % 8 ≠ 0 ∧
      (nv 0b101#3 (st noEL3 .el1 H)).ctx.nvBase.toNat % 8 = 0 ∧
      ¬ nvOffText { nv 0b101#3 (st noEL3 .el1 H) with text := [(0x800001BF, 0#8)] } ∧
      nvOffText { nv 0b101#3 (st noEL3 .el1 H) with text := [(0x800001B7, 0#8), (0x800001C0, 0#8)] } ∧
      (ctx (nv 0b101#3 (st noEL3 .el1 H)) (fun c => { c with nvAbort := true })).ctx.nvAbort = true ∧
      nvMemReady { nv 0b101#3 (st noEL3 .el1 H) with pc := 0xFFFFFFFFFFFFFFFC#64 } ∧
      reachesRegister { st noEL3 .el2 H with pc := 0xFFFFFFFFFFFFFFFC#64 } ∧
      ¬ pcHasRoom { st noEL3 .el2 H with pc := 0xFFFFFFFFFFFFFFFC#64 } := by decide

theorem witness_EntryEffect :
    takeException (st defaultConfig .el0 H) .el1 0x00#6 5#25 =
        .next (enterException (st defaultConfig .el0 H) .el1 0x00#6 5#25) ∧
      takeException (a32 (st defaultConfig .el0 H)) .el3 0x03#6 0#25 =
        .next (enterException (a32 (st defaultConfig .el0 H)) .el3 0x03#6 0#25) ∧
      (st defaultConfig .el0 H).pstate.el.num < Target.el1.el.num := ⟨rfl, rfl, by decide⟩

theorem witness_EntryToTheCurrentLevel :
    ∃ s1 s2, takeException (st defaultConfig .el2 H) .el2 0x00#6 5#25 =
        .next (enterException (st defaultConfig .el2 H) .el2 0x00#6 5#25) ∧ Target.el2.el = (st defaultConfig .el2 H).pstate.el ∧
      exec (.mrsHfgrtrEl2 1#5) (st { defaultConfig with haveFGT := false } .el3 H) = .next s1 ∧
      exec (.msrHfgrtrEl2 1#5) (st { defaultConfig with haveFGT := false } .el1 H) = .next s2 := by
  obtain ⟨s1, h1⟩ := exists_next (o := exec (.mrsHfgrtrEl2 1#5) (st { defaultConfig with haveFGT := false } .el3 H)) (by decide)
  obtain ⟨s2, h2⟩ := exists_next (o := exec (.msrHfgrtrEl2 1#5) (st { defaultConfig with haveFGT := false } .el1 H)) (by decide)
  exact ⟨s1, s2, rfl, rfl, h1, h2⟩

theorem witness_WhereAnEntryIsRefused :
    levelImplemented noEL3 Target.el3.el = false ∧ Target.el1.el.num < (st noEL3 .el2 H).pstate.el.num ∧
      levelImplemented noEL3 Target.el1.el = true ∧ (st noEL3 .el0 H).pstate.el.num ≤ Target.el1.el.num ∧
      (ctx (st noEL3 .el0 H) (fun c => { c with el1A64 := false })).ctx.el1A64 = false ∧ (st noEL3 .el0 H).Wf ∧
      (effE2hTge (st noEL3 .el0 H)).getLsbD 0 = false ∧ readOf (.mrsVbarEl1 2#5) = some (.mrs, .vbarEl1) ∧
      condOk (st noEL3 .el1 H) (.mrsVbarEl1 2#5) = true ∧
      (let s := ctx (st noEL3 .el1 H) (fun c => { c with higherPriority := [(rd .vbarEl1, .trap .el3 0x18#6)] }); higherPriority s (readIn s .mrs .vbarEl1)) =
        some (.trap .el3 0x18#6) := by decide

theorem witness_ReturnUndoesEntry :
    levelImplemented defaultConfig .el1 = true ∧
      takeException (st defaultConfig .el1 H) .el2 0x18#6 0#25 =
        .next (enterException (st defaultConfig .el1 H) .el2 0x18#6 0#25) := ⟨rfl, rfl⟩

theorem witness_SyndromeIdentifiesPointRegisterAndDirection :
    issOf hfgrtrPoint 1#5 true = issOf hfgrtrPoint 1#5 true ∧ issOf hfgrtrPoint 1#5 true ≠ issOf hfgrtrPoint 1#5 false := by decide

theorem witness_CommonConditionGatesEveryTrap :
    fgrtCommon (st defaultConfig .el1 ALLTRAP) = false ∧ fgrtCommon (fgt (st defaultConfig .el1 ALLTRAP)) = true := by decide

theorem witness_HostAtEL2Condition :
    Field.coversEL0 .ctrEl0 = true ∧ Field.coversEL0 .vbarEl1 = false ∧ noEL3.haveEL2 = true ∧
      (ctx (st noEL3 .el0 V) (fun c => { c with e2hTge := 0b11#2 })).ctx.e2hTge = 0b11#2 ∧ (0b10#2 : BitVec 2) ≠ 0b11#2 := by decide

theorem witness_WhatATrappedReadIs :
    trapped (st noEL3 .el1 H) (rd .vbarEl1) = true ∧ trapped (st noEL3 .el0 V) { rd .ctrEl0 with el := .el0 } = true ∧
      trapped (st noEL3 .el0 ALLTRAP) { kind := .mrc, reg := .tpidruro, el := .el0, iset := .t32 } = true := by decide

theorem witness_AtMostOneFieldCoversARead :
    covers noEL3 .vbarEl1 (rd .vbarEl1) = true ∧ ¬ ({ noEL3 with bitpos := [] } : Config).Wf ∧
      ¬ ({ noEL3 with groupSets := [(.tcrEl1, .tcrEl1), (.tcrEl1, .sctlrEl1)] } : Config).Wf := by decide

theorem witness_CoveredReadTrapsToEL2 :
    readOf (.mrsCtrEl0 3#5) = some (.mrs, .ctrEl0) ∧ readOf (.mrcTpidrurw 14#4 3#4) = some (.mrc, .tpidrurw) ∧
      readOf (.mrrsParEl1 2#5) = some (.mrrs, .parEl1) ∧ (st noEL3 .el1 H).Wf ∧ condOk (st noEL3 .el0 V) (.mrcTpidrurw 14#4 3#4) = true ∧
      higherPriority (st noEL3 .el0 V) (readIn (st noEL3 .el0 V) .mrs .ctrEl0) = none ∧ noEL3.fieldOf .ctrEl0 = some .ctrEl0 ∧
      noEL3.fieldOf .tpidrurw = some .tpidrEl0 ∧ noEL3.fieldOf .parEl1 = some .parEl1 ∧ noEL3.featOf .ctrEl0 = true ∧
      ReadKind.mrs ∈ Field.ctrEl0.kinds ∧ ReadKind.mrc ∈ Field.tpidrEl0.kinds ∧ ReadKind.mrrs ∈ Field.parEl1.kinds ∧
      (st noEL3 .el0 V).pstate.iset = .a64 ∧ (a32 (st noEL3 .el0 V)).pstate.iset ≠ .a64 ∧ Field.ctrEl0.coversEL0 = true ∧
      (st noEL3 .el0 V).ctx.el2Enabled = true ∧ gateOpen (st noEL3 .el0 V) ∧ (st noEL3 .el0 V).ctx.e2hTge ≠ 0b11#2 ∧
      (st noEL3 .el0 V).ctx.el1A64 = true ∧ (governing (st noEL3 .el0 V)).getLsbD (noEL3.bitOf .ctrEl0) = !Field.ctrEl0.negative ∧
      (governing (st noEL3 .el0 ALLTRAP)).getLsbD (noEL3.bitOf .tpidrEl0) = !Field.tpidrEl0.negative := by decide

theorem witness_EveryReadFollowsItsFieldRule :
    readOf (.mrsVbarEl1 2#5) = some (.mrs, .vbarEl1) ∧ readOf (.mrsTpidr2El0 2#5) = some (.mrs, .tpidr2El0) ∧
      readOf (.mrcTpidruro 14#4 3#4) = some (.mrc, .tpidruro) ∧ (st noEL3 .el1 H).Wf ∧ defaultTables noEL3 ∧
      condOk (st noEL3 .el1 H) (.mrcTpidruro 14#4 3#4) = true ∧ higherPriority (st noEL3 .el1 H) (readIn (st noEL3 .el1 H) .mrs .vbarEl1) = none ∧
      (st noEL3 .el1 H).pending = none ∧ noEL3.haveFGT = true ∧ noEL3.haveEL2 = true ∧ (st noEL3 .el1 H).ctx.el2Enabled = true ∧
      gateOpen (st noEL3 .el1 H) ∧ (st noEL3 .el1 H).ctx.e2hTge ≠ 0b11#2 ∧ (st noEL3 .el1 H).ctx.el1A64 = true ∧
      (st noEL3 .el1 H).pstate.iset = .a64 ∧ SysReg.tpidr2El0.ruleRow.2.2 = true ∧
      (a32 (st noEL3 .el0 H)).pstate.iset ≠ .a64 ∧
      H.getLsbD SysReg.vbarEl1.ruleRow.1 = SysReg.vbarEl1.ruleRow.2.1 ∧
      H.getLsbD SysReg.tpidr2El0.ruleRow.1 ≠ SysReg.tpidr2El0.ruleRow.2.1 := by decide

theorem witness_HigherPriorityComesFirst :
    readOf (.mrsVbarEl1 2#5) = some (.mrs, .vbarEl1) ∧ (st noEL3 .el1 H).Wf ∧ condOk (st noEL3 .el1 H) (.mrsVbarEl1 2#5) = true ∧
      (let s := ctx (st noEL3 .el1 H) (fun c => { c with higherPriority := [(rd .vbarEl1, .undefined)] }); higherPriority s (readIn s .mrs .vbarEl1)) = some .undefined := by decide

theorem witness_ReadDependsOnItsOwnFieldAlone :
    readOf (.mrsVbarEl1 2#5) = some (.mrs, .vbarEl1) ∧ (st noEL3 .el1 H).pending = none ∧
      noEL3.fieldOf .vbarEl1 = some .vbarEl1 ∧ noEL3.featOf .vbarEl1 = true ∧
      (0xFFFF_FFFF_FFFF_FFFF#64).getLsbD (noEL3.bitOf .vbarEl1) = (st noEL3 .el1 H).hfgrtr.getLsbD (noEL3.bitOf .vbarEl1) := by decide

theorem witness_AbsentFieldIsInertAndRES0 :
    Field.nTpidr2El0.conditional = true ∧ Field.nTpidr2El0 ∈ ({ noEL3 with absent := [.nTpidr2El0] } : Config).absent ∧
      ({ noEL3 with absent := [.nTpidr2El0] } : Config).fieldOf .tpidr2El0 = some .nTpidr2El0 ∧
      (nextOf (exec (.msrHfgrtrEl2 1#5) (st { noEL3 with absent := [.nTpidr2El0] } .el2 H))).isSome = true ∧
      reachesRegister (st { noEL3 with absent := [.nTpidr2El0] } .el2 H) ∧ noEL3.haveFGT = true ∧ noEL3.res0Stored = false := by decide

theorem witness_PendingWriteAdmitsBothValues :
    (writeHfgrtr (st noEL3 .el2 H) V).pending = some H ∧
      (ctx (st noEL3 .el2 H) (fun c => { c with useOld := true })).ctx.useOld = true ∧ (st noEL3 .el2 H).ctx.useOld = false := by decide

theorem witness_NotrapAndAlltrap :
    noEL3.bitpos = defaultBitpos ∧ (st noEL3 .el1 NOTRAP).pending = none ∧ (st noEL3 .el1 NOTRAP).hfgrtr = NOTRAP ∧
      (st noEL3 .el1 ALLTRAP).hfgrtr = ALLTRAP ∧ trapped (st noEL3 .el1 ALLTRAP) (rd .midrEl1) = true := by decide

theorem witness_NotrapWriteThenLevelChangeTrapsNothing :
    ∃ s1 s2, noEL3.bitpos = defaultBitpos ∧ noEL3.haveFGT = true ∧ reachesRegister (x0 NOTRAP (st noEL3 .el2 H)) ∧
      readX (x0 NOTRAP (st noEL3 .el2 H)) 0#5 = NOTRAP ∧
      exec (.msrHfgrtrEl2 0#5) (x0 NOTRAP (st noEL3 .el2 H)) = .next s1 ∧
      applyRest s1 (.levelChange .el1 .a64 0x8000#64) = .next s2 := by
  obtain ⟨s1, h1⟩ := exists_next (o := exec (.msrHfgrtrEl2 0#5) (x0 NOTRAP (st noEL3 .el2 H))) (by decide)
  exact ⟨s1, _, by decide, by decide, by decide, by decide, h1, rfl⟩

theorem witness_UntrappedMrsCompletes :
    Instr.access (.mrsVbarEl1 31#5) = .mrs .vbarEl1 31#5 ∧ (st noEL3 .el1 H).Wf ∧ pcHasRoom (st noEL3 .el1 NOTRAP) ∧
      higherPriority (st noEL3 .el1 NOTRAP) (readIn (st noEL3 .el1 NOTRAP) .mrs .vbarEl1) = none ∧ (st noEL3 .el1 NOTRAP).ctx.untrapped = .completes ∧
      trapped (st noEL3 .el1 NOTRAP) (readIn (st noEL3 .el1 NOTRAP) .mrs .vbarEl1) = false := by decide

theorem witness_UntrappedMrrsCompletes :
    Instr.access (.mrrsParEl1 30#5) = .mrrs .parEl1 30#5 ∧ (st noEL3 .el1 H).Wf ∧ pcHasRoom (st noEL3 .el1 NOTRAP) ∧
      higherPriority (st noEL3 .el1 NOTRAP) (readIn (st noEL3 .el1 NOTRAP) .mrrs .parEl1) = none ∧ (st noEL3 .el1 NOTRAP).ctx.untrapped = .completes ∧
      trapped (st noEL3 .el1 NOTRAP) (readIn (st noEL3 .el1 NOTRAP) .mrrs .parEl1) = false := by decide

theorem witness_UntrappedMrcCompletes :
    Instr.access (.mrcTpidrurw 0#4 15#4) = .mrc .tpidrurw 0#4 15#4 ∧ (st noEL3 .el1 H).Wf ∧ pcHasRoom (a32 (st noEL3 .el0 NOTRAP)) ∧
      condHolds (ctx (st noEL3 .el0 NOTRAP) (fun c => { c with condPassed := false })) 0#4 = false ∧
      condHolds (a32 (st noEL3 .el0 NOTRAP)) 0#4 = true ∧ higherPriority (a32 (st noEL3 .el0 NOTRAP)) (readIn (a32 (st noEL3 .el0 NOTRAP)) .mrc .tpidrurw) = none ∧
      (a32 (st noEL3 .el0 NOTRAP)).ctx.untrapped = .completes ∧
      trapped (a32 (st noEL3 .el0 NOTRAP)) (readIn (a32 (st noEL3 .el0 NOTRAP)) .mrc .tpidrurw) = false ∧
      (14#4 : BitVec 4) ≠ 15#4 := by decide

theorem witness_UntrappedReadMayRaiseElsewhere :
    readOf (.mrsCtrEl0 2#5) = some (.mrs, .ctrEl0) ∧ (st noEL3 .el1 H).Wf ∧ condOk (st noEL3 .el0 NOTRAP) (.mrsCtrEl0 2#5) = true ∧
      higherPriority (st noEL3 .el0 NOTRAP) (readIn (st noEL3 .el0 NOTRAP) .mrs .ctrEl0) = none ∧
      trapped (st noEL3 .el0 NOTRAP) (readIn (st noEL3 .el0 NOTRAP) .mrs .ctrEl0) = false ∧
      (ctx (st noEL3 .el0 NOTRAP) (fun c => { c with untrapped := .raises (.trap .el1 0x18#6) })).ctx.untrapped =
        .raises (.trap .el1 0x18#6) ∧
      (ctx (st noEL3 .el0 NOTRAP) (fun c => { c with untrapped := .raises .undefined })).ctx.untrapped = .raises .undefined ∧
      undefinedTarget (st noEL3 .el0 NOTRAP) = .el1 ∧ Target.el2 ≠ .el1 ∧ levelImplemented noEL3 Target.el1.el = true ∧
      (st noEL3 .el0 NOTRAP).pstate.el.num ≤ Target.el1.el.num ∧ (st noEL3 .el0 NOTRAP).ctx.el1A64 = true := by decide

theorem witness_WhereAReadStops :
    readOf (.mrsVbarEl1 2#5) = some (.mrs, .vbarEl1) ∧ readOf (.mrcTpidrurw 0#4 3#4) = some (.mrc, .tpidrurw) ∧ noEL3.Wf ∧
      (ctx (st noEL3 .el1 NOTRAP) (fun c => { c with nvBase := 4#64 })).ctx.nvBase.toNat % 8 ≠ 0 ∧
      (st noEL3 .el1 NOTRAP).ctx.nvBase.toNat % 8 = 0 ∧
      ¬ pcHasRoom { st noEL3 .el1 NOTRAP with pc := 0xFFFFFFFFFFFFFFFC#64 } ∧
      condOk (ctx (st noEL3 .el0 NOTRAP) (fun c => { c with condPassed := false })) (.mrcTpidrurw 0#4 3#4) = false ∧
      condOk (st noEL3 .el1 NOTRAP) (.mrsVbarEl1 2#5) = true ∧
      higherPriority (st noEL3 .el1 NOTRAP) (readIn (st noEL3 .el1 NOTRAP) .mrs .vbarEl1) = none ∧
      (st noEL3 .el1 NOTRAP).ctx.untrapped = .completes ∧
      trapped (st noEL3 .el1 NOTRAP) (readIn (st noEL3 .el1 NOTRAP) .mrs .vbarEl1) = false := by decide

theorem witness_ReadFrame :
    ∃ s1 s2, readOf (.mrsVbarEl1 2#5) = some (.mrs, .vbarEl1) ∧
      exec (.mrsVbarEl1 2#5) (st noEL3 .el1 NOTRAP) = .next s1 ∧ exec (.mrsVbarEl1 2#5) (st noEL3 .el1 H) = .next s2 := by
  obtain ⟨s1, h1⟩ := exists_next (o := exec (.mrsVbarEl1 2#5) (st noEL3 .el1 NOTRAP)) (by decide)
  obtain ⟨s2, h2⟩ := exists_next (o := exec (.mrsVbarEl1 2#5) (st noEL3 .el1 H)) (by decide)
  exact ⟨s1, s2, rfl, h1, h2⟩

theorem witness_EveryStepKeepsTheInvariant :
    atMrs.Inv ∧ (nextOf (step atMrs)).isSome = true ∧ (atMsr .el1).Inv ∧ (nextOf (step (atMsr .el1))).isSome = true := by decide

theorem witness_OnlyMsrAndResetWriteTheRegister :
    (nextOf (step (atMsr .el2))).any (fun s => s.hfgrtr != (atMsr .el2).hfgrtr) = true ∧
      (nextOf (step { atMrs with rest := [.input (.reset V)] })).any (fun s => s.hfgrtr != atMrs.hfgrtr) = true := by decide

theorem witness_OnlyTheRedirectedMsrStores :
    (nextOf (step (atMsr .el1))).any (fun s => memRead s.mem 0x800001BF != memRead (atMsr .el1).mem 0x800001BF) = true ∧
      (nextOf (step { atMrs with rest := [.input (.writeMem 7#64 1#8)] })).any (fun s => memRead s.mem 7 != memRead atMrs.mem 7) = true := by decide

theorem witness_EventsRecordTheRedirectedAccess :
    (nextOf (step (atMsr .el1))).any (fun s => s.events != (atMsr .el1).events) = true ∧
      (nextOf (step ((nv 0b101#3 (st noEL3 .el1 H)).withFetchWord 32 0xD53C1181))).map (fun s => s.events.map (fun e => e.direction)) =
        some [.read] := by decide

theorem witness_OnlyDestinationsChange :
    (nextOf (step atMrs)).any (fun s => readX s 1#5 != readX atMrs 1#5) = true ∧
      (nextOf (step { atMrs with rest := [.input (.writeX 30#5 V)] })).any (fun s => readX s 30#5 != readX atMrs 30#5) = true := by decide

theorem witness_NoInstructionLowersTheLevel :
    (nextOf (step { atMrs with rest := [.input (.levelChange .el0 .a64 0#64)] })).any (fun s => s.pstate.el.num < atMrs.pstate.el.num) = true ∧
      (nextOf (step (atMsr .el0))).any (fun s => (atMsr .el0).pstate.el.num < s.pstate.el.num) = true ∧
      (nextOf (step { atMsr .el0 with rest := [.input (.levelChange .el2 .a64 0#64)] })).any (fun s => (atMsr .el0).pstate.el.num < s.pstate.el.num) = true := by decide

theorem witness_WhereAnInputIsRefused :
    inputNext { atMrs with rest := [.input (.levelChange .el3 .a64 0#64)] } = some (.levelChange .el3 .a64 0#64) ∧
      levelImplemented atMrs.cfg .el3 = false ∧ levelImplemented atMrs.cfg .el2 = true ∧ (atMsr .el0).pstate.el = .el0 ∧
      Target.el2.el = atMrs.pstate.el ∧ atMrs.pstate.el.num < EL.el3.num ∧
      levelImplemented atMrs.cfg (excRegs atMrs .el2).spsr.el = true ∧ (excRegs atMrs .el2).spsr.el.num ≤ atMrs.pstate.el.num ∧
      ({ resetContext with nvBase := 4#64 } : Context).nvBase.toNat % 8 ≠ 0 ∧
      ({ resetContext with nvBase := 0x1000#64 - 0x1B8#64 } : Context).nvBase.toNat % 8 = 0 ∧
      ¬ nvOffText { atMrs with ctx := { resetContext with nvBase := 0x1000#64 - 0x1B8#64 } } ∧
      nvOffText { atMrs with ctx := { resetContext with nvBase := 0x1008#64 - 0x1B8#64 } } := by decide

theorem witness_OnlyTheRedirectedAccessFaults :
    ∃ f, step (ctx (atMsr .el1) (fun c => { c with nvAbort := true })) = .fault f := by
  have h : isSafe (step (ctx (atMsr .el1) (fun c => { c with nvAbort := true }))) = false := by decide
  cases ho : step (ctx (atMsr .el1) (fun c => { c with nvAbort := true })) with
  | next s => rw [ho] at h; cases h
  | fault f => exact ⟨f, rfl⟩
  | refused r => rw [ho] at h; cases h

theorem witness_ConfigurationAndTextAreFixed :
    (nextOf (step atMrs)).isSome = true := by decide

theorem witness_ResetDrawsEveryValue :
    (noEL3.res0Stored = false ∧ V &&& ~~~noEL3.implMask = 0#64) ∧ ({ noEL3 with res0Stored := true } : Config).res0Stored = true ∧
      inputNext { atMrs with rest := [.input (.reset V)] } = some (.reset V) := by decide

end Sys2Proof.Tests
end

section
/-! SUPPORT. Scope (spec/00_scope.md): a step takes one turn, and what no step changes. -/

namespace Sys2Proof.Machine

/-! ### The turn a step takes -/

/-- With no turn listed there is none to take: an instruction runs at the state itself. -/
theorem afterTurn_of_rest_nil {s : State} (h : s.rest = []) : afterTurn s = s := by
  cases s; cases h; rfl

/-- An input is next where the list of turns begins with it. -/
theorem inputNext_of_rest_cons {s : State} {e : RestEvent} {es : List Turn} (h : s.rest = .input e :: es) :
    inputNext s = some e := by
  unfold inputNext; rw [h]

/-- The step of a state whose next turn is an input is that input's (R10, log 24). -/
theorem step_of_inputNext {s : State} {e : RestEvent} (h : inputNext s = some e) :
    step s = applyRest (afterTurn s) e := by
  rw [step_eq, h]

/-- The step of a state whose next turn is an instruction is the one at the pc (R12, R199). -/
theorem step_of_nextInstr {s : State} {i : Instr} (hin : inputNext s = none) (hi : nextInstr s = .ok i) :
    step s = exec i (afterTurn s) := by
  rw [step_eq, hin, hi]

/-- The instruction at an aligned pc is the one its bytes decode to (R12). -/
theorem nextInstr_of_decode {s : State} {bytes after : List Byte} {i : Instr} (ha : pcAligned s = true)
    (hb : fetchBytes s = some bytes) (hd : decode s.pstate.iset bytes = .ok (i, after)) : nextInstr s = .ok i := by
  simp [nextInstr, ha, hb, hd]

/-! ### What no step changes -/

/-- An instruction that answers a next state leaves the configuration, the program text and the list of turns: it
enters an exception, transfers with memory or the register, or completes a read (R6, R55). -/
theorem exec_keeps_cfg_text_rest {i : Instr} {s s' : State} (h : exec i s = .next s') :
    s'.cfg = s.cfg ∧ s'.text = s.text ∧ s'.rest = s.rest := by
  rcases accessor_or_read i with ⟨t, hi⟩ | ⟨k, reg, hr⟩
  · obtain ⟨u, ec, iss, -, -, rfl⟩ | ⟨-, ⟨-, -, viaMem⟩ | ⟨-, viaReg⟩⟩ := accessor_next hi h
    · simp
    · obtain ⟨-, rfl⟩ | ⟨-, rfl⟩ := viaMem <;> simp
    · obtain ⟨-, rfl⟩ | ⟨-, rfl⟩ := viaReg <;> simp
  · obtain ⟨u, ec, iss, -, -, rfl⟩ | rfl | rfl := read_next hr h <;> simp

/-- A step, whatever its turn is, leaves the configuration and the program text, and of the turns those after the
first (R6, R10, R55). -/
theorem step_keeps_cfg_text_rest {s s' : State} (h : step s = .next s') :
    s'.cfg = s.cfg ∧ s'.text = s.text ∧ s'.rest = s.rest.tail := by
  rcases step_next h with ⟨e, -, he⟩ | ⟨i, -, hi⟩
  · obtain ⟨hcfg, htext, hrest, -⟩ := applyRest_next he
    exact ⟨hcfg, htext, hrest⟩
  · exact exec_keeps_cfg_text_rest hi

/-! ### The obligations -/

/-- Settles O51: by what an input and what an instruction can do. -/
theorem configurationAndTextAreFixed : Obligations.ConfigurationAndTextAreFixed := by
  intro s s' h
  obtain ⟨hcfg, htext, -⟩ := step_keeps_cfg_text_rest h
  exact ⟨hcfg, htext⟩

/-- Settles O54: after the instruction's step the input stands first in the list, so it is the next step's turn. -/
theorem turnsAreTakenInOrder : Obligations.TurnsAreTakenInOrder := by
  intro s
  have tail : ∀ s', step s = .next s' → s'.rest = s.rest.tail := by
    intro s' h
    obtain ⟨-, -, hrest⟩ := step_keeps_cfg_text_rest h
    exact hrest
  refine ⟨fun e => step_of_inputNext, tail, fun s' e es hs h => ?_⟩
  have hrest : s'.rest = .input e :: es := by rw [tail s' h, hs, List.tail_cons]
  exact ⟨step_of_inputNext (inputNext_of_rest_cons hrest), by rw [afterTurn_rest, hrest, List.tail_cons]⟩

/-- Settles O6: the decoded instruction is the one the step reads at the pc. -/
theorem stepRunsTheDecodedInstruction : Obligations.StepRunsTheDecodedInstruction := by
  intro s bytes after i hin ha hb hd
  exact ⟨step_of_nextInstr hin (nextInstr_of_decode ha hb hd), afterTurn_of_rest_nil⟩

end Sys2Proof.Machine
end

section
/-! SUPPORT. RES0 bits, the level after reset, and the invariant that every operation keeps. -/

namespace Sys2Proof.Machine

/-! ### RES0 bits (R15, R20) -/

/-- Without EL2 every bit is RES0 (R15). -/
theorem implMask_of_noEL2 {c : Config} (h : c.haveEL2 = false) : c.implMask = 0#64 := by
  simp [Config.implMask, h]

theorem maskRES0_of_stored {c : Config} (h : c.res0Stored = true) (v : Word) : c.maskRES0 v = v := if_pos h

theorem maskRES0_of_hardwired {c : Config} (h : c.res0Stored = false) (v : Word) :
    c.maskRES0 v = v &&& c.implMask := by
  simp [Config.maskRES0, h]

/-- A masked value is 0 in every hardwired RES0 bit (R20). -/
theorem maskRES0_res0 {c : Config} (h : c.res0Stored = false) (v : Word) : c.maskRES0 v &&& ~~~c.implMask = 0#64 := by
  simp [maskRES0_of_hardwired h, BitVec.and_assoc]

/-- A value that is 0 in every hardwired RES0 bit is left by the mask (R20). -/
theorem maskRES0_eq_self {c : Config} {w : Word} (h : c.res0Stored = false → w &&& ~~~c.implMask = 0#64) :
    c.maskRES0 w = w := by
  cases hs : c.res0Stored
  · rw [maskRES0_of_hardwired hs]
    calc w &&& c.implMask = (w &&& c.implMask) ||| (w &&& ~~~c.implMask) := by rw [h hs, BitVec.or_zero]
      _ = w := by rw [← BitVec.and_or_distrib_left, BitVec.or_not_self, BitVec.and_allOnes]
  · exact maskRES0_of_stored hs w

/-! ### The invariant -/

/-- The level after reset is implemented (R172, R188). -/
theorem levelImplemented_highestEL (c : Config) : levelImplemented c (highestEL c) = true := by
  unfold highestEL
  split_ifs with h3 h2
  · exact h3
  · exact h2
  · rfl

/-- The invariant speaks of the configuration, the level, the pending value, the register, the context, memory and the
text: it does not see any other field. -/
theorem inv_congr {s s' : State} (hcfg : s'.cfg = s.cfg) (hps : s'.pstate = s.pstate) (hpend : s'.pending = s.pending)
    (hreg : s'.hfgrtr = s.hfgrtr) (hctx : s'.ctx = s.ctx) (hmem : s'.mem = s.mem) (htext : s'.text = s.text)
    (hi : s.Inv) : s'.Inv := by
  simpa only [State.Inv, outsideNVMem, nvAddr, hcfg, hps, hpend, hreg, hctx, hmem, htext] using hi

/-- An entry to an implemented level keeps the invariant: it clears `pending` (R33, R163). -/
theorem enterException_inv {s : State} {u : Target} (ec : BitVec 6) (iss : BitVec 25) (hi : s.Inv)
    (hl : levelImplemented s.cfg u.el = true) : (enterException s u ec iss).Inv := by
  obtain ⟨hmem, htext, -, -, hres0, hbase, hoff⟩ := hi
  refine ⟨by simpa using hmem, by simpa using htext, by simpa using hl, by simp, by simpa using hres0,
    by simpa using hbase, ?_⟩
  simpa only [outsideNVMem, nvAddr, enterException_text, enterException_ctx] using hoff

/-- The transfer with the register keeps the invariant: the value is masked, and the write is pending at a level that
can write (R20, R33). -/
theorem writeHfgrtr_inv {s : State} (v : Word) (hi : s.Inv) (hr : reachesRegister s) : (writeHfgrtr s v).Inv := by
  obtain ⟨hmem, htext, hlevel, -, -, hbase, hoff⟩ := hi
  exact ⟨hmem, htext, hlevel, fun _ => hr.imp And.left id, fun h => maskRES0_res0 h v, hbase, hoff⟩

/-- The redirected store keeps the invariant (R46, R48). -/
theorem nvWrite_inv {s : State} (v : Word) (hi : s.Inv) : (nvWrite s v).Inv := by
  obtain ⟨hmem, htext, hlevel, hpend, hres0, hbase, hoff⟩ := hi
  exact ⟨nvWrite_wf v ((nvAligned_iff s).2 hbase) hmem, htext, hlevel, hpend, hres0, hbase, hoff⟩

/-- The invariant does not see the pc, nor the record of accesses, nor the general registers. -/
theorem advance_inv {s : State} (hi : s.Inv) : (advance s).Inv := hi

theorem recordNV_inv {s : State} (d : Direction) (v : Word) (hi : s.Inv) : (recordNV s d v).Inv := hi

theorem writeX_inv {s : State} (t : BitVec 5) (v : Word) (hi : s.Inv) : (writeX s t v).Inv :=
  inv_congr (by simp) (by simp) (by simp) (by simp) (by simp) (by simp) (by simp) hi

theorem completeRead_inv {s : State} (a : Access) (hi : s.Inv) : (completeRead s a).Inv :=
  inv_congr (by simp) (by simp) (by simp) (by simp) (by simp) (by simp) (by simp) hi

/-- Every instruction keeps the invariant: it enters an exception, transfers with memory or the register, or completes
a read. -/
theorem exec_keeps_inv {i : Instr} {s s' : State} (hi : s.Inv) (h : exec i s = .next s') : s'.Inv := by
  rcases accessor_or_read i with ⟨t, hacc⟩ | ⟨k, reg, hread⟩
  · obtain ⟨u, ec, iss, hl, -, rfl⟩ | ⟨-, ⟨-, -, viaMem⟩ | ⟨hr, viaReg⟩⟩ := accessor_next hacc h
    · exact enterException_inv ec iss hi hl
    · obtain ⟨-, rfl⟩ | ⟨-, rfl⟩ := viaMem
      · exact advance_inv (recordNV_inv _ _ (writeX_inv t _ hi))
      · exact advance_inv (recordNV_inv _ _ (nvWrite_inv _ hi))
    · obtain ⟨-, rfl⟩ | ⟨-, rfl⟩ := viaReg
      · exact advance_inv (writeX_inv t _ hi)
      · exact advance_inv (writeHfgrtr_inv _ hi hr)
  · obtain ⟨u, ec, iss, hl, -, rfl⟩ | rfl | rfl := read_next hread h
    · exact enterException_inv ec iss hi hl
    · exact advance_inv (completeRead_inv _ hi)
    · exact advance_inv hi

/-- Every input of the rest of the machine keeps the invariant. -/
theorem applyRest_keeps_inv {s s' : State} {e : RestEvent} (hi : s.Inv) (h : applyRest s e = .next s') : s'.Inv := by
  obtain ⟨hmem, htext, hlevel, hpend, hres0, hbase, hoff⟩ := hi
  obtain ⟨ecfg, etext, -, -, ereg, emem, -, ectx, elevel⟩ := applyRest_next h
  have mem' : Memory.wf s'.mem := by
    obtain e | ⟨w, b, -, e⟩ := emem <;> rw [e]
    · exact hmem
    · exact memWrite_wf b w.isLt hmem
  have level' : levelImplemented s'.cfg s'.pstate.el = true := by
    rw [ecfg]
    obtain ⟨e, -⟩ | ⟨-, hl, -⟩ | ⟨-, -, -, -, hl, -⟩ | ⟨-, -, e, -⟩ := elevel
    · rwa [e]
    · exact hl
    · exact hl
    · rw [e]; exact levelImplemented_highestEL s.cfg
  have pend' : s'.pending.isSome = true → s'.pstate.el = .el2 ∨ s'.pstate.el = .el3 := by
    obtain ⟨e, e' | e'⟩ | ⟨-, -, -, e'⟩ | ⟨-, -, -, -, -, e'⟩ | ⟨-, -, -, e'⟩ := elevel <;> rw [e']
    · rwa [e]
    all_goals simp
  have res0' : s'.cfg.res0Stored = false → s'.hfgrtr &&& ~~~s'.cfg.implMask = 0#64 := by
    rw [ecfg]
    obtain e | ⟨d, -, e⟩ := ereg <;> rw [e]
    · exact hres0
    · exact fun h0 => maskRES0_res0 h0 d
  have nv' : s'.ctx.nvBase.toNat % 8 = 0 ∧ nvOffText s' := by
    obtain e | ⟨c, -, -, ha, ho⟩ := ectx
    · simpa only [nvOffText, outsideNVMem, nvAddr, e, etext] using And.intro hbase hoff
    · exact ⟨(nvAligned_iff s').1 ha, ho⟩
  exact ⟨mem', by rwa [etext], level', pend', res0', nv'⟩

/-! ### The obligation -/

/-- Settles O44: the turn taken off the list is not seen by the invariant, and an input and an instruction keep it. -/
theorem everyStepKeepsTheInvariant : Obligations.EveryStepKeepsTheInvariant := by
  intro s s' hi h
  have ht : (afterTurn s).Inv := hi
  obtain ⟨e, -, he⟩ | ⟨i, -, hx⟩ := step_next h
  · exact applyRest_keeps_inv ht he
  · exact exec_keeps_inv ht hx

end Sys2Proof.Machine
end

section
/-! SUPPORT. What changes a general register and what changes `HFGRTR_EL2`: the frames of an instruction and of a step. -/

namespace Sys2Proof.Machine

/-! ### General registers -/

/-- An entry writes no general register (R157). -/
theorem readX_enterException (s : State) (u : Target) (ec : BitVec 6) (iss : BitVec 25) (n : BitVec 5) :
    readX (enterException s u ec iss) n = readX s n :=
  readX_congr (enterException_x s u ec iss) n

theorem readX_afterTurn (s : State) (n : BitVec 5) : readX (afterTurn s) n = readX s n := readX_congr (afterTurn_x s) n

theorem readX_advance (s : State) (n : BitVec 5) : readX (advance s) n = readX s n := readX_congr (advance_x s) n

/-- The pair of `MRRS` leaves every register but its two (R27, R60). -/
theorem readX_writeXPair_ne (s : State) {t n : BitVec 5} (v : BitVec 128) (h0 : n ≠ t) (h1 : n ≠ t + 1#5) :
    readX (writeXPair s t v) n = readX s n := by
  rw [writeXPair, readX_writeX_ne _ _ h1, readX_writeX_ne _ _ h0]

/-- The register of `MRC` is the one of the same number, and none for number 15 (log 23). -/
theorem readX_writeR_ne (s : State) {t : BitVec 4} {n : BitVec 5} (v : Word) (h : t ≠ 15#4 → n ≠ t.setWidth 5) :
    readX (writeR s t v) n = readX s n := by
  unfold writeR
  split_ifs with ht
  · rfl
  · exact readX_writeX_ne s v (h ht)

/-- A completed read writes its destinations alone (R27, R60). -/
theorem readX_completeRead {i : Instr} {n : BitVec 5} (s : State) (h : isDestination i n = false) :
    readX (completeRead s i.access) n = readX s n := by
  unfold isDestination at h
  cases ha : i.access with
  | mrsH t => rfl
  | msrH t => rfl
  | mrs r t =>
    rw [ha] at h
    exact readX_writeX_ne s _ (by simpa using h)
  | mrrs r t =>
    rw [ha] at h
    simp only [Bool.or_eq_false_iff, beq_eq_false_iff_ne] at h
    exact readX_writeXPair_ne s _ h.1 h.2
  | mrc r cond t =>
    rw [ha] at h
    exact readX_writeR_ne s _ fun ht => by simpa [ht] using h

/-- An instruction leaves every general register that is no destination of it (R27, R157). -/
theorem exec_keeps_readX {i : Instr} {s s' : State} {n : BitVec 5} (h : exec i s = .next s')
    (hn : isDestination i n = false) : readX s' n = readX s n := by
  rcases accessor_or_read i with ⟨t, hacc⟩ | ⟨k, reg, hread⟩
  · have dest : i = .mrsHfgrtrEl2 t → n ≠ t := by
      rintro rfl
      simpa [isDestination, Instr.access] using hn
    obtain ⟨u, ec, iss, -, -, rfl⟩ | ⟨-, ⟨-, -, viaMem⟩ | ⟨-, viaReg⟩⟩ := accessor_next hacc h
    · exact readX_enterException s u ec iss n
    · obtain ⟨hi, rfl⟩ | ⟨-, rfl⟩ := viaMem
      · exact readX_writeX_ne s _ (dest hi)
      · rfl
    · obtain ⟨hi, rfl⟩ | ⟨-, rfl⟩ := viaReg
      · exact readX_writeX_ne s _ (dest hi)
      · rfl
  · obtain ⟨u, ec, iss, -, -, rfl⟩ | rfl | rfl := read_next hread h
    · exact readX_enterException s u ec iss n
    · exact readX_completeRead s hn
    · exact readX_advance s n

/-- Settles O48: an input writes a general register only as `writeX`, an instruction only a destination. -/
theorem onlyDestinationsChange : Obligations.OnlyDestinationsChange := by
  intro s s' n h hne
  rw [← readX_afterTurn s n] at hne
  obtain ⟨e, hin, he⟩ | ⟨i, hat, hx⟩ := step_next h
  · obtain ⟨-, -, -, -, -, -, same | ⟨t, v, rfl, other⟩, -⟩ := applyRest_next he
    · exact absurd (same n) hne
    · have hnt : n = t := by
        by_contra hnt
        exact hne (other n hnt)
      exact .inl ⟨v, hnt ▸ hin⟩
  · refine .inr ⟨i, hat, ?_⟩
    by_contra hd
    exact hne (exec_keeps_readX hx (by simpa using hd))

/-! ### The register `HFGRTR_EL2` -/

/-- An instruction leaves `HFGRTR_EL2`, or is an `MSR` that reaches it and holds its source there (R34, R150). -/
theorem exec_hfgrtr {i : Instr} {s s' : State} (h : exec i s = .next s') :
    s'.hfgrtr = s.hfgrtr ∨ (reachesRegister s ∧ s.cfg.haveFGT = true ∧
      ∃ t, i = .msrHfgrtrEl2 t ∧ s'.hfgrtr = s.cfg.maskRES0 (readX s t)) := by
  rcases accessor_or_read i with ⟨t, hacc⟩ | ⟨k, reg, hread⟩
  · obtain ⟨u, ec, iss, -, -, rfl⟩ | ⟨hf, ⟨-, -, viaMem⟩ | ⟨hr, viaReg⟩⟩ := accessor_next hacc h
    · exact .inl (enterException_hfgrtr s u ec iss)
    · obtain ⟨-, rfl⟩ | ⟨-, rfl⟩ := viaMem <;> exact .inl (by simp)
    · obtain ⟨-, rfl⟩ | ⟨hi, rfl⟩ := viaReg
      · exact .inl (by simp)
      · exact .inr ⟨hr, hf, t, hi, rfl⟩
  · obtain ⟨u, ec, iss, -, -, rfl⟩ | rfl | rfl := read_next hread h <;> exact .inl (by simp)

/-- Settles O46: of the inputs only a reset writes the register, of the instructions only an `MSR` that reaches it. -/
theorem onlyMsrAndResetWriteTheRegister : Obligations.OnlyMsrAndResetWriteTheRegister := by
  intro s s' h hne
  obtain ⟨e, hin, he⟩ | ⟨i, hat, hx⟩ := step_next h
  · obtain ⟨-, -, -, -, same | ⟨d, rfl, -⟩, -⟩ := applyRest_next he
    · exact absurd same hne
    · exact .inl ⟨d, hin⟩
  · obtain same | ⟨hr, hf, t, rfl, hv⟩ := exec_hfgrtr hx
    · exact absurd same hne
    · rw [readX_afterTurn] at hv
      exact .inr ⟨hr, hf, t, hat, hv⟩

/-! ### The frame of a read -/

/-- A read leaves the register, memory, the record, the configuration, the context, the text and the turns, whether it
completes, is skipped, or its exception is entered (R76, R157). -/
theorem read_keeps {i : Instr} {k : ReadKind} {reg : SysReg} {s s' : State} (hr : readOf i = some (k, reg))
    (h : exec i s = .next s') :
    s'.hfgrtr = s.hfgrtr ∧ s'.mem = s.mem ∧ s'.events = s.events ∧ s'.cfg = s.cfg ∧ s'.ctx = s.ctx ∧
      s'.text = s.text ∧ s'.rest = s.rest := by
  obtain ⟨u, ec, iss, -, -, rfl⟩ | rfl | rfl := read_next hr h <;> simp

/-- Settles O43: by the three things a read can do. -/
theorem readFrame : Obligations.ReadFrame := by
  intro i k reg s s' hr h
  obtain ⟨hreg, hmem, hrest⟩ := read_keeps hr h
  obtain ⟨hevents, hcfg, hctx, htext, hturns⟩ := hrest
  refine ⟨fun n => exec_keeps_readX h, hreg, fun a => by rw [hmem], hevents, hcfg, hctx, htext, hturns, ?_⟩
  obtain ⟨u, ec, iss, -, -, rfl⟩ | rfl | rfl := read_next hr h
  · exact .inr ⟨readX_enterException s u ec iss, u, ec, iss, rfl⟩
  · exact .inl (by simp)
  · exact .inl (by simp)

/-! ### Reset -/

/-- Settles O52: the register holds the draw masked, which is any value that is 0 in the hardwired RES0 bits. -/
theorem resetDrawsEveryValue : Obligations.ResetDrawsEveryValue := by
  refine ⟨fun c draw => ⟨fun h => maskRES0_res0 h draw, rfl, rfl⟩, fun c w hw => ⟨w, maskRES0_eq_self hw⟩, ?_, ?_⟩
  · intro s draw hin
    exact ⟨resetEvent (afterTurn s) draw, step_of_inputNext hin, fun h => maskRES0_res0 h draw, rfl, rfl, rfl⟩
  · intro s w hw
    exact ⟨w, resetEvent s w, rfl, maskRES0_eq_self hw⟩

end Sys2Proof.Machine
end

section
/-! SUPPORT. The accessors, one equation per row of their chain (R146, R150). -/

namespace Sys2Proof.Machine

/-! ### The branches of the chain -/

/-- At EL2 with the gate open and at EL3 the chain ends with the register (rows M8 to M10 of R147). -/
theorem accessorChain_of_reachesRegister {s : State} (viaMem viaReg : State) (hf : s.cfg.haveFGT = true)
    (hr : reachesRegister s) : accessorChain s viaMem viaReg = finish viaReg := by
  obtain ⟨hel, gate⟩ | hel := hr
  · obtain h | h := gate <;> simp [accessorChain, hf, hel, fgtEn, h]
  · simp [accessorChain, hf, hel]

/-- At EL1 with `EffNVx` matching `1x1` it goes to memory (row M2 of R147). -/
theorem accessorChain_of_redirected {s : State} (viaMem viaReg : State) (hf : s.cfg.haveFGT = true)
    (hr : redirected s) : accessorChain s viaMem viaReg = nvAccess s viaMem := by
  simp [accessorChain, hf, hr.1, hr.2]

/-- `1x1` matches `xx1` (R7). -/
theorem nvMatches1x1_of_not_xx1 {s : State} (h : nvMatchesxx1 s = false) : nvMatches1x1 s = false := by
  change ((effNVx s).getLsbD 2 && nvMatchesxx1 s) = false
  rw [h, Bool.and_false]

/-- Where an accessor is UNDEFINED: without FEAT_FGT, at EL0, at EL1 with `EffNVx` off `xx1`, and at EL2 with the gate
closed and `EL3SDDUndef` (R14, R146, R150). -/
theorem accessorChain_of_undefined {s : State} (viaMem viaReg : State)
    (h : s.cfg.haveFGT = false ∨ s.pstate.el = .el0 ∨ (s.pstate.el = .el1 ∧ nvMatchesxx1 s = false) ∨
      (s.pstate.el = .el2 ∧ s.cfg.haveEL3 = true ∧ s.ctx.fgten = false ∧ el3SDDUndef s = true)) :
    accessorChain s viaMem viaReg = .raise .undefined := by
  obtain hf | hel | ⟨hel, hnv⟩ | ⟨hel, h3, hgate, hsdd⟩ := h
  · simp [accessorChain, hf]
  · simp [accessorChain, hel]
  · simp [accessorChain, hel, hnv, nvMatches1x1_of_not_xx1 hnv]
  · simp [accessorChain, hel, h3, fgtEn, hgate, hsdd]

/-! ### The accessors by their chain -/

/-- Both accessors run the chain; neither transfer moves the pc. -/
theorem exec_accessor {i : Instr} {t : BitVec 5} (s : State) (hi : i = .mrsHfgrtrEl2 t ∨ i = .msrHfgrtrEl2 t) :
    ∃ a viaMem viaReg, viaMem.pc = s.pc ∧ viaReg.pc = s.pc ∧
      exec i s = runAccess s a (accessorChain s viaMem viaReg) := by
  obtain rfl | rfl := hi
  · exact ⟨_, _, _, by simp, by simp, rfl⟩
  · exact ⟨_, _, _, by simp, by simp, rfl⟩

/-- The `MRS` that reaches the register (R146). -/
theorem exec_mrs_of_reachesRegister {s : State} (t : BitVec 5) (hw : s.Wf) (hf : s.cfg.haveFGT = true)
    (hr : reachesRegister s) :
    exec (.mrsHfgrtrEl2 t) s = deliver s (.mrsH t) (finish (writeX s t (readHfgrtr s))) := by
  have chain : mrsHfgrtrResult s t = finish (writeX s t (readHfgrtr s)) := accessorChain_of_reachesRegister _ _ hf hr
  rw [← chain, ← runAccess_of_wf _ _ hw]
  rfl

/-- The `MSR` that reaches the register (R150). -/
theorem exec_msr_of_reachesRegister {s : State} (t : BitVec 5) (hw : s.Wf) (hf : s.cfg.haveFGT = true)
    (hr : reachesRegister s) :
    exec (.msrHfgrtrEl2 t) s = deliver s (.msrH t) (finish (writeHfgrtr s (readX s t))) := by
  have chain : msrHfgrtrResult s t = finish (writeHfgrtr s (readX s t)) := accessorChain_of_reachesRegister _ _ hf hr
  rw [← chain, ← runAccess_of_wf _ _ hw]
  rfl

/-- With room for the pc, the state after a completed instruction is the one its own effect leaves, advanced (R28). -/
theorem deliver_finish {s done : State} (a : Access) (h : pcHasRoom done) :
    deliver s a (finish done) = .next (advance done) := by
  rw [finish_of_room h]
  rfl

/-- Without room the completion is refused (R28, D18). -/
theorem deliver_finish_of_noRoom {s done : State} (a : Access) (h : ¬ pcHasRoom done) :
    deliver s a (finish done) = .refused .pcWrap := by
  rw [finish, if_neg h]
  rfl

/-! ### Without EL2 -/

/-- Without EL2 the common condition is false (R15, R74). -/
theorem fgrtCommon_of_noEL2 {s : State} (h : s.cfg.haveEL2 = false) : fgrtCommon s = false := by
  simp [fgrtCommon, el2Enabled, h]

/-- With the common condition false no read is trapped (R74). -/
theorem trapped_eq_false_of_fgrtCommon {s : State} (r : Read) (h : fgrtCommon s = false) : trapped s r = false := by
  rw [Bool.eq_false_iff, Ne, trapped_iff_exists]
  rintro ⟨f, hf⟩
  obtain ⟨-, -, -, hcommon, -⟩ := (fgrtTraps_iff s r f).1 hf
  rw [h] at hcommon
  cases hcommon

/-- Settles O18: without EL2 the mask is 0 where RES0 bits are hardwired, and the identity where they are storage. -/
theorem withoutEL2TheRegisterIsRES0 : Obligations.WithoutEL2TheRegisterIsRES0 := by
  intro s t h2
  refine ⟨fun r => trapped_eq_false_of_fgrtCommon r (fgrtCommon_of_noEL2 h2), fun hw hf hel hroom => ?_⟩
  have mrs : exec (.mrsHfgrtrEl2 t) s = .next (advance (writeX s t (s.cfg.maskRES0 s.hfgrtr))) := by
    rw [exec_mrs_of_reachesRegister t hw hf (.inr hel), deliver_finish _ (by simpa using hroom), readHfgrtr]
  have msr : exec (.msrHfgrtrEl2 t) s =
      .next (advance { s with hfgrtr := s.cfg.maskRES0 (readX s t), pending := some s.hfgrtr }) := by
    rw [exec_msr_of_reachesRegister t hw hf (.inr hel), deliver_finish _ (by simpa using hroom), writeHfgrtr]
  refine ⟨fun h0 => ?_, fun hs => ?_⟩
  · have zero : ∀ v, s.cfg.maskRES0 v = 0#64 := fun v => by
      rw [maskRES0_of_hardwired h0, implMask_of_noEL2 h2, BitVec.and_zero]
    exact ⟨zero s.hfgrtr ▸ mrs, zero (readX s t) ▸ msr⟩
  · exact ⟨maskRES0_of_stored hs s.hfgrtr ▸ mrs, maskRES0_of_stored hs (readX s t) ▸ msr⟩

/-! ### UNDEFINED -/

/-- TGE is 1 only with EL2 (R25, log 25). -/
theorem haveEL2_of_tge {s : State} (h : (effE2hTge s).getLsbD 0 = true) : s.cfg.haveEL2 = true := by
  by_contra h2
  simp [effE2hTge, h2] at h

/-- Above EL0 UNDEFINED is taken to the level itself (R160). -/
theorem undefinedTarget_el_of_ne {s : State} (h : s.pstate.el ≠ .el0) : (undefinedTarget s).el = s.pstate.el := by
  unfold undefinedTarget
  cases he : s.pstate.el with
  | el0 => exact absurd he h
  | el1 => rfl
  | el2 => rfl
  | el3 => rfl

theorem undefinedTarget_of_el0 {s : State} (h : s.pstate.el = .el0) :
    undefinedTarget s = if (effE2hTge s).getLsbD 0 then .el2 else .el1 := by
  rw [undefinedTarget, h]

/-- From an implemented level, the target of UNDEFINED is implemented and not lower (R160, R172). -/
theorem undefinedTarget_legal {s : State} (hl : levelImplemented s.cfg s.pstate.el = true) :
    levelImplemented s.cfg (undefinedTarget s).el = true ∧ s.pstate.el.num ≤ (undefinedTarget s).el.num := by
  by_cases h0 : s.pstate.el = .el0
  · refine ⟨?_, by simp [h0, EL.num]⟩
    rw [undefinedTarget_of_el0 h0]
    split_ifs with ht
    · exact haveEL2_of_tge ht
    · rfl
  · rw [undefinedTarget_el_of_ne h0]
    exact ⟨hl, le_rfl⟩

/-- Settles O22: in every UNDEFINED case the chain raises, and the entry to the target of R160 is possible. -/
theorem undefinedAccessorEntersTheException : Obligations.UndefinedAccessorEntersTheException := by
  intro s t i hi hw ha hl hu
  obtain ⟨a, viaMem, viaReg, -, -, hexec⟩ := exec_accessor s hi
  obtain ⟨himpl, hle⟩ := undefinedTarget_legal hl
  refine ⟨undefinedTarget s, syndromeISS s a 0x00#6, ?_, fun h0 ht => ?_, fun h0 ht => ?_, undefinedTarget_el_of_ne⟩
  · rw [hexec, runAccess_of_wf _ _ hw, accessorChain_of_undefined _ _ hu]
    exact takeException_eq himpl hle ha
  · rw [undefinedTarget_of_el0 h0, if_pos ht]
  · rw [undefinedTarget_of_el0 h0, if_neg (Bool.eq_false_iff.1 ht)]

/-! ### Where an accessor stops -/

/-- Settles O23: each clause is one branch of the chain, of the redirected access or of the completion. -/
theorem whereAnAccessorStops : Obligations.WhereAnAccessorStops := by
  intro s t i hi hcfg
  obtain ⟨a, viaMem, viaReg, hmem, hreg, hexec⟩ := exec_accessor s hi
  refine ⟨fun h8 => ?_, fun h8 hf => ?_⟩
  · rw [hexec, runAccess_of_misaligned _ _ hcfg (by simpa [nvAligned] using h8)]
  have hrun : exec i s = deliver s a (accessorChain s viaMem viaReg) := by
    rw [hexec, runAccess_of_wf _ _ ⟨hcfg, (nvAligned_iff s).2 h8⟩]
  refine ⟨fun hr hoff => ?_, fun hr hoff habort => ?_, fun hr hready hroom => ?_, fun hr hroom => ?_⟩
  · rw [hrun, accessorChain_of_redirected _ _ hf hr, nvAccess, if_neg hoff]
    rfl
  · rw [hrun, accessorChain_of_redirected _ _ hf hr, nvAccess, if_pos hoff, if_pos habort]
    rfl
  · rw [hrun, accessorChain_of_redirected _ _ hf hr, nvAccess, if_pos hready.1, if_neg (by simp [hready.2])]
    exact deliver_finish_of_noRoom a (by rwa [pcHasRoom, hmem])
  · rw [hrun, accessorChain_of_reachesRegister _ _ hf hr]
    exact deliver_finish_of_noRoom a (by rwa [pcHasRoom, hreg])

end Sys2Proof.Machine
end

section
/-! SUPPORT. The trap predicate against the register: the positions of the fields, and what of the register it reads. -/

namespace Sys2Proof

/-! ### The positions of the fields (R17) -/

theorem Field.idx_lt (f : Field) : f.idx < 63 := by cases f <;> decide

theorem Field.idx_injective {f g : Field} (h : f.idx = g.idx) : f = g := by
  rw [← Field.ofNat_ctorIdx f, ← Field.ofNat_ctorIdx g]
  exact congrArg Field.ofNat h

/-- Under a well-formed configuration the position of a field is its entry of `BITPOS` (R17, R77). -/
theorem bitOf_eq_getElem {c : Config} (h : c.BitposWf) (f : Field) :
    ∃ hf : f.idx < c.bitpos.length, c.bitOf f = c.bitpos[f.idx] := by
  have hf : f.idx < c.bitpos.length := by
    rw [h.1]
    exact f.idx_lt
  exact ⟨hf, List.getD_eq_getElem _ _ hf⟩

theorem bitOf_lt {c : Config} (h : c.BitposWf) (f : Field) : c.bitOf f < 64 := by
  obtain ⟨hf, e⟩ := bitOf_eq_getElem h f
  rw [e]
  exact h.2.2 _ (List.getElem_mem hf)

/-- Two fields never share a bit (R77, D29). -/
theorem bitOf_injective {c : Config} (h : c.BitposWf) {f g : Field} (e : c.bitOf f = c.bitOf g) : f = g := by
  obtain ⟨hf, ef⟩ := bitOf_eq_getElem h f
  obtain ⟨hg, eg⟩ := bitOf_eq_getElem h g
  rw [ef, eg] at e
  exact Field.idx_injective ((h.2.1.getElem_inj_iff).1 e)

theorem featOf_of_absent {c : Config} {f : Field} (hc : f.conditional = true) (ha : f ∈ c.absent) :
    c.featOf f = false := by
  simp [Config.featOf, hc, ha]

/-- The bit of a field whose feature is absent is RES0 (R20, R21). -/
theorem implMask_of_absent {c : Config} (h : c.BitposWf) {f : Field} (hf : c.featOf f = false) :
    c.implMask.getLsbD (c.bitOf f) = false := by
  have noOther : Field.all.any (fun g => c.featOf g && c.bitOf g == c.bitOf f) = false := by
    rw [List.any_eq_false]
    intro g _ hg
    simp only [Bool.and_eq_true, beq_iff_eq] at hg
    rw [bitOf_injective h hg.2, hf] at hg
    exact Bool.false_ne_true hg.1
  rw [Machine.implMask_getLsbD c (bitOf_lt h f), noOther, Bool.and_false]

end Sys2Proof

namespace Sys2Proof.Machine

/-! ### What of the register the trap predicate reads -/

/-- A field's rule sees the configuration, the context and whether the field has its trapping value: nothing else of
the state (R77). -/
theorem fgrtTraps_congr {s s' : State} {f : Field} (hcfg : s'.cfg = s.cfg) (hctx : s'.ctx = s.ctx)
    (hf : fieldTraps s' f = fieldTraps s f) (r : Read) : fgrtTraps s' r f = fgrtTraps s r f := by
  simp only [fgrtTraps, coveredIn, fgrtCommon, el2Enabled, fgtEn, effE2hTge, hcfg, hctx, hf]

/-- The trap predicate sees the register through its governing value (R33, R77). -/
theorem trapped_congr {s s' : State} (hcfg : s'.cfg = s.cfg) (hctx : s'.ctx = s.ctx)
    (hg : governing s' = governing s) (r : Read) : trapped s' r = trapped s r := by
  have each : fgrtTraps s' r = fgrtTraps s r :=
    funext fun f => fgrtTraps_congr hcfg hctx (by rw [fieldTraps, fieldTraps, hg, hcfg]) r
  rw [trapped, trapped, each]

/-- A field that is not at its trapping value traps nothing (R19). -/
theorem fgrtTraps_eq_false_of_fieldTraps {s : State} {f : Field} (r : Read) (h : fieldTraps s f = false) :
    fgrtTraps s r f = false := by
  rw [fgrtTraps, h, Bool.and_false]

/-- A field whose feature is absent traps nothing (R21). -/
theorem fgrtTraps_eq_false_of_featOf {s : State} {f : Field} (r : Read) (h : s.cfg.featOf f = false) :
    fgrtTraps s r f = false := by
  simp [fgrtTraps, h]

theorem governing_of_not_pending {s : State} (h : s.pending = none) : governing s = s.hfgrtr := by
  rw [governing, h]

theorem governing_of_useOld {s : State} {old : Word} (h : s.pending = some old) (hu : s.ctx.useOld = true) :
    governing s = old := by
  rw [governing, h]
  exact if_pos hu

theorem governing_of_not_useOld {s : State} (hu : s.ctx.useOld = false) : governing s = s.hfgrtr := by
  cases hp : s.pending with
  | none => exact governing_of_not_pending hp
  | some old =>
    rw [governing, hp]
    exact if_neg (by simp [hu])

/-- Settles O36: the governing value is the old one or the new one by `useOld`, and the new one once none is pending. -/
theorem pendingWriteAdmitsBothValues : Obligations.PendingWriteAdmitsBothValues := by
  intro s old r hp
  refine ⟨fun hu => ?_, fun hu => ?_, rfl⟩
  · refine trapped_congr (s := { s with hfgrtr := old, pending := none }) (s' := s) rfl rfl ?_ r
    rw [governing_of_useOld hp hu]
    rfl
  · refine trapped_congr (s := { s with pending := none }) (s' := s) rfl rfl ?_ r
    rw [governing_of_not_useOld hu]
    rfl

/-! ### Absent fields -/

/-- An `MSR` that reaches the register and completes leaves its source there, masked (R150, R152). -/
theorem msr_next_of_reachesRegister {s s' : State} {t : BitVec 5} (h : exec (.msrHfgrtrEl2 t) s = .next s')
    (hf : s.cfg.haveFGT = true) (hr : reachesRegister s) : s' = advance (writeHfgrtr s (readX s t)) := by
  rw [exec_msr_of_reachesRegister t (exec_wf h) hf hr] at h
  by_cases room : pcHasRoom (writeHfgrtr s (readX s t))
  · rw [deliver_finish _ room] at h
    exact (Host.Outcome.next.inj h).symm
  · rw [deliver_finish_of_noRoom _ room] at h
    cases h

/-- Settles O35: the one field of the read's register has no feature, and its bit is off the mask. -/
theorem absentFieldIsInertAndRES0 : Obligations.AbsentFieldIsInertAndRES0 := by
  intro s s' f t hc ha
  have hfeat : s.cfg.featOf f = false := featOf_of_absent hc ha
  refine ⟨fun r hr => ?_, fun h hr hf h0 => ?_⟩
  · rw [trapped_eq_of_fieldOf hr, fgrtTraps_eq_false_of_featOf r hfeat]
  · obtain ⟨⟨hbits, -⟩, -⟩ := exec_wf h
    rw [msr_next_of_reachesRegister h hf hr, advance_hfgrtr, writeHfgrtr_hfgrtr, maskRES0_of_hardwired h0,
      BitVec.getLsbD_and, implMask_of_absent hbits hfeat, Bool.and_false]

/-! ### NOTRAP and ALLTRAP -/

/-- Under the default positions no field of `NOTRAP` has its trapping value (R19, R189). -/
theorem NOTRAP_getLsbD (f : Field) : NOTRAP.getLsbD (defaultBitpos.getD f.idx 0) = !f.trapVal := by
  have all : ∀ f ∈ Field.all, NOTRAP.getLsbD (defaultBitpos.getD f.idx 0) = !f.trapVal := by decide
  exact all f (mem_allFields f)

/-- Under the default positions every field of `ALLTRAP` has its trapping value (R19, R189). -/
theorem ALLTRAP_getLsbD (f : Field) : ALLTRAP.getLsbD (defaultBitpos.getD f.idx 0) = f.trapVal := by
  have all : ∀ f ∈ Field.all, ALLTRAP.getLsbD (defaultBitpos.getD f.idx 0) = f.trapVal := by decide
  exact all f (mem_allFields f)

/-- With no write pending and the default positions, a field has its trapping value by its bit of the register. -/
theorem fieldTraps_of_defaultBitpos {s : State} (hb : s.cfg.bitpos = defaultBitpos) (hp : s.pending = none)
    (f : Field) : fieldTraps s f = (s.hfgrtr.getLsbD (defaultBitpos.getD f.idx 0) == f.trapVal) := by
  rw [fieldTraps, governing_of_not_pending hp, Config.bitOf, hb]

/-- Settles O37: under `NOTRAP` no field has its trapping value and under `ALLTRAP` each has, so that only the other
conjuncts of R77 are left to decide. -/
theorem notrapAndAlltrap : Obligations.NotrapAndAlltrap := by
  intro s r hb hp
  refine ⟨fun hv => ?_, fun hv => ⟨fun h => ⟨s.hfgrtr, h⟩, fun ⟨v, h⟩ => ?_⟩⟩
  · rw [Bool.eq_false_iff, Ne, trapped_iff_exists]
    rintro ⟨f, hf⟩
    have off : fieldTraps s f = false := by
      rw [fieldTraps_of_defaultBitpos hb hp, hv, NOTRAP_getLsbD]
      cases f.trapVal <;> rfl
    rw [fgrtTraps_eq_false_of_fieldTraps r off] at hf
    cases hf
  · obtain ⟨f, hf⟩ := (trapped_iff_exists _ r).1 h
    have on : fieldTraps s f = true := by
      rw [fieldTraps_of_defaultBitpos hb hp, hv, ALLTRAP_getLsbD]
      exact beq_self_eq_true _
    have on' : fieldTraps { s with hfgrtr := v } f = true := by
      by_contra hoff
      rw [fgrtTraps_eq_false_of_fieldTraps r (Bool.eq_false_iff.2 hoff)] at hf
      cases hf
    have same : fgrtTraps { s with hfgrtr := v } r f = fgrtTraps s r f :=
      fgrtTraps_congr (s := s) (s' := { s with hfgrtr := v }) rfl rfl (on'.trans on.symm) r
    exact (trapped_iff_exists s r).2 ⟨f, same ▸ hf⟩

end Sys2Proof.Machine
end

section
/-! SUPPORT. What a read does under a changed register, and where it stops. -/

namespace Sys2Proof.Machine

/-! ### A read under a changed register -/

/-- A state with another value in the register. -/
def withHfgrtr (v : Word) (s : State) : State := { s with hfgrtr := v }

/-- A result with its next state changed. -/
def mapResult (g : State → State) : Result → Result
  | .next s => .next (g s)
  | .raise e => .raise e
  | .nvMemAbort => .nvMemAbort
  | .notThisHardware => .notThisHardware
  | .refuse r => .refuse r

theorem enterException_withHfgrtr (v : Word) (s : State) (u : Target) (ec : BitVec 6) (iss : BitVec 25) :
    enterException (withHfgrtr v s) u ec iss = withHfgrtr v (enterException s u ec iss) := by
  cases u <;> rfl

theorem takeException_withHfgrtr (v : Word) (s : State) (u : Target) (ec : BitVec 6) (iss : BitVec 25) :
    takeException (withHfgrtr v s) u ec iss = mapNext (withHfgrtr v) (takeException s u ec iss) := by
  unfold takeException
  rw [enterException_withHfgrtr, apply_ite (mapNext _), apply_ite (mapNext _)]
  rfl

theorem raiseException_withHfgrtr (v : Word) (s : State) (a : Access) (e : Exn) :
    raiseException (withHfgrtr v s) a e = mapNext (withHfgrtr v) (raiseException s a e) := by
  cases e <;> exact takeException_withHfgrtr v s _ _ _

theorem finish_withHfgrtr (v : Word) (s : State) : finish (withHfgrtr v s) = mapResult (withHfgrtr v) (finish s) := by
  unfold finish
  rw [apply_ite (mapResult _)]
  rfl

theorem writeX_withHfgrtr (v : Word) (s : State) (t : BitVec 5) (w : Word) :
    writeX (withHfgrtr v s) t w = withHfgrtr v (writeX s t w) := by
  unfold writeX
  split_ifs <;> rfl

theorem writeXPair_withHfgrtr (v : Word) (s : State) (t : BitVec 5) (w : BitVec 128) :
    writeXPair (withHfgrtr v s) t w = withHfgrtr v (writeXPair s t w) := by
  simp only [writeXPair, writeX_withHfgrtr]

theorem writeR_withHfgrtr (v : Word) (s : State) (t : BitVec 4) (w : Word) :
    writeR (withHfgrtr v s) t w = withHfgrtr v (writeR s t w) := by
  unfold writeR
  split_ifs
  · rfl
  · exact writeX_withHfgrtr v s _ w

theorem completeRead_withHfgrtr (v : Word) (s : State) (a : Access) :
    completeRead (withHfgrtr v s) a = withHfgrtr v (completeRead s a) := by
  cases a with
  | mrsH t => rfl
  | msrH t => rfl
  | mrs r t => simp only [completeRead, writeX_withHfgrtr]; rfl
  | mrrs r t => simp only [completeRead, writeXPair_withHfgrtr]; rfl
  | mrc r cond t => simp only [completeRead, writeR_withHfgrtr]; rfl

/-- The rest of the machine answers a read handed over whatever the register holds (R79). -/
theorem handOver_withHfgrtr (v : Word) (s : State) (a : Access) :
    handOver (withHfgrtr v s) a = mapNext (withHfgrtr v) (handOver s a) := by
  have ctx_eq : (withHfgrtr v s).ctx = s.ctx := rfl
  unfold handOver
  rw [ctx_eq]
  cases s.ctx.untrapped with
  | completes =>
    simp only [completeRead_withHfgrtr, finish_withHfgrtr]
    cases finish (completeRead s a) <;> rfl
  | raises e => exact raiseException_withHfgrtr v s a e

theorem deliver_withHfgrtr (v : Word) (s : State) (a : Access) (r : Result) :
    deliver (withHfgrtr v s) a (mapResult (withHfgrtr v) r) = mapNext (withHfgrtr v) (deliver s a r) := by
  cases r with
  | next u => rfl
  | raise e => exact raiseException_withHfgrtr v s a e
  | nvMemAbort => rfl
  | notThisHardware => exact handOver_withHfgrtr v s a
  | refuse r => rfl

/-- An access with the same result does the same whatever the register holds. -/
theorem runAccess_withHfgrtr (v : Word) (s : State) (a : Access) (r : Result) :
    runAccess (withHfgrtr v s) a (mapResult (withHfgrtr v) r) = mapNext (withHfgrtr v) (runAccess s a r) := by
  unfold runAccess
  rw [deliver_withHfgrtr, apply_ite (mapNext _), apply_ite (mapNext _)]
  rfl

/-- The result of a read sees the register through the trap predicate alone (R77). -/
theorem readResult_withHfgrtr {v : Word} {s : State} {r : Read} (h : trapped (withHfgrtr v s) r = trapped s r) :
    readResult (withHfgrtr v s) r = mapResult (withHfgrtr v) (readResult s r) := by
  have oracle : higherPriority (withHfgrtr v s) r = higherPriority s r := rfl
  unfold readResult
  rw [oracle, h]
  cases higherPriority s r with
  | some e => rfl
  | none => cases trapped s r <;> rfl

/-- With no write pending, a read is trapped by the bit of its own field, if that field's feature is there (R77). -/
theorem trapped_withHfgrtr {s : State} {v : Word} {r : Read} (hp : s.pending = none)
    (h : ∀ f, s.cfg.fieldOf r.reg = some f → s.cfg.featOf f = true →
      v.getLsbD (s.cfg.bitOf f) = s.hfgrtr.getLsbD (s.cfg.bitOf f)) :
    trapped (withHfgrtr v s) r = trapped s r := by
  cases hr : s.cfg.fieldOf r.reg with
  | none => rw [trapped_eq_false_of_fieldOf hr, trapped_eq_false_of_fieldOf (s := withHfgrtr v s) hr]
  | some f =>
    rw [trapped_eq_of_fieldOf hr, trapped_eq_of_fieldOf (s := withHfgrtr v s) hr]
    cases hf : s.cfg.featOf f with
    | false => rw [fgrtTraps_eq_false_of_featOf r hf, fgrtTraps_eq_false_of_featOf (s := withHfgrtr v s) r hf]
    | true =>
      refine fgrtTraps_congr (s := s) (s' := withHfgrtr v s) rfl rfl ?_ r
      rw [fieldTraps, fieldTraps, governing_of_not_pending hp, governing_of_not_pending (s := withHfgrtr v s) hp]
      exact congrArg (· == f.trapVal) (h f hr hf)

/-- Settles O34: a read whose condition fails does not look at the register, and any other only by the trap predicate. -/
theorem readDependsOnItsOwnFieldAlone : Obligations.ReadDependsOnItsOwnFieldAlone := by
  intro i k reg s v hr hp h
  change exec i (withHfgrtr v s) = mapNext (withHfgrtr v) (exec i s)
  have cond : condOk (withHfgrtr v s) i = condOk s i := rfl
  cases hc : condOk s i with
  | false =>
    rw [exec_read_skipped hr hc, exec_read_skipped hr (cond.trans hc), finish_withHfgrtr, runAccess_withHfgrtr]
  | true =>
    have result := readResult_withHfgrtr (trapped_withHfgrtr (r := readIn s k reg) hp h)
    rw [exec_read hr hc, exec_read hr (cond.trans hc), ← runAccess_withHfgrtr, ← result]
    rfl

/-! ### Where a read stops -/

/-- Every read runs one access: its own result, or, by its condition, the completion alone (R77, log 23). -/
theorem exists_exec_read {i : Instr} {k : ReadKind} {reg : SysReg} (s : State) (hr : readOf i = some (k, reg)) :
    ∃ r, exec i s = runAccess s i.access r := by
  cases hc : condOk s i with
  | false => exact ⟨_, exec_read_skipped hr hc⟩
  | true => exact ⟨_, exec_read hr hc⟩

/-- A read that would complete where the pc has no room is refused (R28, D18). -/
theorem handOver_of_noRoom {s : State} (a : Access) (hu : s.ctx.untrapped = .completes) (h : ¬ pcHasRoom s) :
    handOver s a = .refused .pcWrap := by
  have stop : finish (completeRead s a) = .refuse .pcWrap := if_neg (by simpa using h)
  simp only [handOver, hu, stop]

/-- Settles O58: each clause is one branch of running an access, of the read's result or of its completion. -/
theorem whereAReadStops : Obligations.WhereAReadStops := by
  intro i k reg s hr hcfg
  refine ⟨fun h8 => ?_, fun h8 hroom => ⟨fun hc => ?_, fun hc hhp hu ht => ?_⟩⟩
  · obtain ⟨r, hexec⟩ := exists_exec_read s hr
    rw [hexec, runAccess_of_misaligned _ _ hcfg (by simpa [nvAligned] using h8)]
  · rw [exec_read_skipped hr hc, runAccess_of_wf _ _ ⟨hcfg, (nvAligned_iff s).2 h8⟩]
    exact deliver_finish_of_noRoom _ hroom
  · have untrapped : readResult s (readIn s k reg) = .notThisHardware := by simp [readResult, hhp, ht]
    rw [exec_read hr hc, runAccess_of_wf _ _ ⟨hcfg, (nvAligned_iff s).2 h8⟩, untrapped]
    exact handOver_of_noRoom _ hu hroom

end Sys2Proof.Machine
end

section
/-! SUPPORT. Memory: what stores to it, what is recorded of an access, and where the redirected access faults. -/

namespace Sys2Proof.Machine

/-! ### The location `NVMem[0x1B8]` -/

/-- Byte `i` of eight bytes put together, counted from the low end. -/
theorem extractLsb'_eight_bytes (b7 b6 b5 b4 b3 b2 b1 b0 : Byte) (i : Nat) (hi : i < 8) :
    (b7 ++ b6 ++ b5 ++ b4 ++ b3 ++ b2 ++ b1 ++ b0 : Word).extractLsb' (8 * i) 8 =
      [b0, b1, b2, b3, b4, b5, b6, b7][i] := by
  obtain rfl | below : i = 7 ∨ i < 7 := by omega
  · repeat rw [BitVec.extractLsb'_append_eq_of_le (by decide)]
    exact BitVec.extractLsb'_eq_self
  · interval_cases i
    all_goals repeat rw [BitVec.extractLsb'_append_eq_of_le (by decide)]
    all_goals exact BitVec.extractLsb'_append_eq_right

/-- Byte `i` of a 64-bit read is the byte of memory at the `i`-th address, counted from the low end in little-endian
order and from the high end in big-endian order (R45, R47). -/
theorem byteOf_memRead64 (big : Bool) (m : List Host.Cell) (a : Nat) {i : Nat} (hi : i < 8) :
    byteOf big (memRead64 big m a) i = memRead m (a + i) := by
  cases big with
  | false => exact (extractLsb'_eight_bytes _ _ _ _ _ _ _ _ i hi).trans (by interval_cases i <;> rfl)
  | true =>
    have fromTop : 56 - 8 * i = 8 * (7 - i) := by omega
    simp only [byteOf, memRead64, if_true, fromTop]
    exact (extractLsb'_eight_bytes _ _ _ _ _ _ _ _ (7 - i) (by omega)).trans (by interval_cases i <;> rfl)

/-- Byte `i` of a list of eight is byte `i` of the value (R47). -/
theorem getElem_bytesOf (big : Bool) (v : Word) {i : Nat} (hi : i < 8) : (bytesOf big v)[i] = byteOf big v i := by
  interval_cases i <;> rfl

/-- The bits of a byte of a value, the byte order being chosen in the position (R47). -/
theorem byteOf_eq_extractLsb' (big : Bool) (v : Word) (i : Nat) :
    byteOf big v i = v.extractLsb' (if big then 56 - 8 * i else 8 * i) 8 := by
  cases big <;> rfl

/-- The redirected store leaves every byte outside the location (R46). -/
theorem memRead_nvWrite_outside {s : State} {a : Nat} (v : Word) (h : outsideNVMem s a) :
    memRead (nvWrite s v).mem a = memRead s.mem a :=
  memRead_memWriteBytes_outside _ _ _ _ h

/-- The redirected store puts byte `i` of its value at the `i`-th address (R46, R47). -/
theorem memRead_nvWrite_inside (s : State) (v : Word) {i : Nat} (hi : i < 8) :
    memRead (nvWrite s v).mem ((nvAddr s).toNat + i) = byteOf s.ctx.nvBigEndian v i :=
  (memRead_memWriteBytes_inside _ _ _ _ hi).trans (getElem_bytesOf _ v hi)

/-! ### The redirected accessors -/

/-- Where the redirected access can be made it completes (R50, R55). -/
theorem nvAccess_of_ready {s : State} (done : State) (h : nvMemReady s) : nvAccess s done = finish done := by
  rw [nvAccess, if_pos h.1, if_neg (by simp [h.2])]

/-- The redirected `MRS` (R146). -/
theorem exec_mrs_of_redirected {s : State} (t : BitVec 5) (hw : s.Wf) (hf : s.cfg.haveFGT = true)
    (hr : redirected s) (hm : nvMemReady s) :
    exec (.mrsHfgrtrEl2 t) s =
      deliver s (.mrsH t) (finish (recordNV (writeX s t (nvRead s)) .read (nvRead s))) := by
  rw [← nvAccess_of_ready _ hm, ← accessorChain_of_redirected _ (writeX s t (readHfgrtr s)) hf hr,
    ← runAccess_of_wf _ _ hw]
  rfl

/-- The redirected `MSR` (R150). -/
theorem exec_msr_of_redirected {s : State} (t : BitVec 5) (hw : s.Wf) (hf : s.cfg.haveFGT = true)
    (hr : redirected s) (hm : nvMemReady s) :
    exec (.msrHfgrtrEl2 t) s =
      deliver s (.msrH t) (finish (recordNV (nvWrite s (readX s t)) .write (readX s t))) := by
  rw [← nvAccess_of_ready _ hm, ← accessorChain_of_redirected _ (writeHfgrtr s (readX s t)) hf hr,
    ← runAccess_of_wf _ _ hw]
  rfl

/-- The record of a redirected access, written out (R44, R52). -/
theorem recordNV_writeX (s : State) (t : BitVec 5) (d : Direction) (v w : Word) :
    recordNV (writeX s t v) d w = { writeX s t v with events := s.events ++
      [{ performer := .pe, address := s.ctx.nvBase + 0x1B8#64, size := 8, value := w, direction := d }] } := by
  simp [recordNV, nvAddr]

/-- Settles O14: the value is the 64-bit read of the location, whose bytes are those of memory. -/
theorem redirectedMrsReadsMemory : Obligations.RedirectedMrsReadsMemory := by
  intro s t hw hf hr hm hroom
  refine ⟨nvRead s, ?_, fun i hi => ?_⟩
  · rw [exec_mrs_of_redirected t hw hf hr hm, deliver_finish _ (by simpa using hroom), recordNV_writeX]
  · rw [← byteOf_eq_extractLsb']
    exact (byteOf_memRead64 _ s.mem (nvAddr s).toNat hi).symm

/-- Settles O15: the memory is what the redirected store leaves. -/
theorem redirectedMsrStoresEightBytes : Obligations.RedirectedMsrStoresEightBytes := by
  intro s t hw hf hr hm hroom
  refine ⟨(nvWrite s (readX s t)).mem, ?_, fun i hi => ?_, fun a => memRead_nvWrite_outside _⟩
  · rw [exec_msr_of_redirected t hw hf hr hm, deliver_finish _ (by simpa using hroom)]
    rfl
  · rw [← byteOf_eq_extractLsb']
    exact memRead_nvWrite_inside s _ hi

/-! ### What an instruction does to memory and to the record -/

/-- An instruction leaves memory and the record of accesses, or is a redirected accessor that completes (R46, R52,
R179). -/
theorem exec_mem_events {i : Instr} {s s' : State} (h : exec i s = .next s') :
    (s'.mem = s.mem ∧ s'.events = s.events) ∨
      (redirected s ∧ ∃ t,
        (i = .mrsHfgrtrEl2 t ∧ s' = advance (recordNV (writeX s t (nvRead s)) .read (nvRead s))) ∨
        (i = .msrHfgrtrEl2 t ∧ s' = advance (recordNV (nvWrite s (readX s t)) .write (readX s t)))) := by
  rcases accessor_or_read i with ⟨t, hacc⟩ | ⟨k, reg, hread⟩
  · obtain ⟨u, ec, iss, -, -, rfl⟩ | ⟨-, ⟨hr, -, viaMem⟩ | ⟨-, viaReg⟩⟩ := accessor_next hacc h
    · exact .inl (by simp)
    · exact .inr ⟨hr, t, viaMem⟩
    · obtain ⟨-, rfl⟩ | ⟨-, rfl⟩ := viaReg <;> exact .inl (by simp)
  · obtain ⟨-, hmem, hevents, -⟩ := read_keeps hread h
    exact .inl ⟨hmem, hevents⟩

/-- Settles O47: of the inputs only `writeMem` writes memory, of the instructions only the redirected `MSR`, which
leaves every byte outside the location. -/
theorem onlyTheRedirectedMsrStores : Obligations.OnlyTheRedirectedMsrStores := by
  intro s s' a h hne
  obtain ⟨e, hin, he⟩ | ⟨i, hat, hx⟩ := step_next h
  · obtain ⟨-, -, -, -, -, same | ⟨w, b, rfl, hmem⟩, -⟩ := applyRest_next he
    · exact absurd (by rw [same, afterTurn_mem]) hne
    · refine .inl ⟨w, b, hin, ?_⟩
      by_contra haw
      exact hne (by rw [hmem, memRead_memWrite_ne _ _ haw, afterTurn_mem])
  · obtain ⟨same, -⟩ | ⟨hr, t, ⟨-, rfl⟩ | ⟨rfl, rfl⟩⟩ := exec_mem_events hx
    · exact absurd (by rw [same, afterTurn_mem]) hne
    · exact absurd (by simp) hne
    · exact .inr ⟨hr, fun out => hne (memRead_nvWrite_outside (s := afterTurn s) _ out), t, hat⟩

/-- Settles O59: an input leaves the record, and an instruction too unless it is a redirected accessor, which adds its
own event. -/
theorem eventsRecordTheRedirectedAccess : Obligations.EventsRecordTheRedirectedAccess := by
  intro s s' h
  obtain ⟨e, -, he⟩ | ⟨i, hat, hx⟩ := step_next h
  · obtain ⟨-, -, -, same, -⟩ := applyRest_next he
    exact .inl same
  · obtain ⟨-, same⟩ | ⟨hr, t, ⟨rfl, rfl⟩ | ⟨rfl, rfl⟩⟩ := exec_mem_events hx
    · exact .inl same
    · refine .inr ⟨hr, t, nvRead (afterTurn s), .read, ?_, fun _ => ⟨hat, fun ht => ?_⟩, nofun⟩
      · simp [nvAddr]
      · exact readX_writeX_same (afterTurn s) _ ht
    · refine .inr ⟨hr, t, readX s t, .write, ?_, nofun, fun _ => ⟨hat, rfl⟩⟩
      simp [nvAddr, readX_afterTurn]

end Sys2Proof.Machine
end

section
/-! SUPPORT. Where a step faults, and where an input of the rest of the machine is refused. -/

namespace Sys2Proof.Machine

/-! ### Where a step faults -/

/-- Taking an exception never faults: it is entered or refused (R163). -/
theorem takeException_ne_fault (s : State) (u : Target) (ec : BitVec 6) (iss : BitVec 25) (f : Fault) :
    takeException s u ec iss ≠ .fault f := by
  unfold takeException
  split_ifs <;> simp

theorem raiseException_ne_fault (s : State) (a : Access) (e : Exn) (f : Fault) : raiseException s a e ≠ .fault f := by
  cases e <;> exact takeException_ne_fault s _ _ _ f

/-- A read handed over never faults: it completes, raises or is refused (R79). -/
theorem handOver_ne_fault (s : State) (a : Access) (f : Fault) : handOver s a ≠ .fault f := by
  unfold handOver
  cases s.ctx.untrapped with
  | completes => cases finish (completeRead s a) <;> simp
  | raises e => exact raiseException_ne_fault s a e f

/-- An access faults only with the result of the aborted memory access (R50, R177). -/
theorem runAccess_fault {s : State} {a : Access} {r : Result} {f : Fault} (h : runAccess s a r = .fault f) :
    r = .nvMemAbort := by
  unfold runAccess at h
  split_ifs at h
  cases r with
  | next u => cases h
  | raise e => exact absurd h (raiseException_ne_fault s a e f)
  | nvMemAbort => rfl
  | notThisHardware => exact absurd h (handOver_ne_fault s a f)
  | refuse r => cases h

theorem finish_ne_nvMemAbort (s : State) : finish s ≠ .nvMemAbort := by
  unfold finish
  split_ifs <;> simp

theorem readResult_ne_nvMemAbort (s : State) (r : Read) : readResult s r ≠ .nvMemAbort := by
  obtain ⟨e, -, h⟩ | ⟨-, -, h⟩ | ⟨-, -, h⟩ := readResult_cases s r <;> simp [h]

/-- The redirected access aborts only where the memory oracle says so (R50). -/
theorem nvAccess_nvMemAbort {s done : State} (h : nvAccess s done = .nvMemAbort) : s.ctx.nvAbort = true := by
  unfold nvAccess at h
  split_ifs at h with hoff habort
  · exact habort
  · exact absurd h (finish_ne_nvMemAbort done)

/-- Of the rows of the chain only the redirected one can abort (R146, R150, R161). -/
theorem accessorChain_nvMemAbort {s viaMem viaReg : State} (h : accessorChain s viaMem viaReg = .nvMemAbort) :
    redirected s ∧ s.ctx.nvAbort = true := by
  unfold accessorChain at h
  cases hel : s.pstate.el <;> simp only [hel] at h
  case el0 => split_ifs at h
  case el1 =>
    split_ifs at h with hf hnv
    exact ⟨⟨hel, hnv⟩, nvAccess_nvMemAbort h⟩
  case el2 =>
    split_ifs at h
    exact absurd h (finish_ne_nvMemAbort viaReg)
  case el3 =>
    split_ifs at h
    exact absurd h (finish_ne_nvMemAbort viaReg)

/-- An instruction faults only as a redirected accessor whose access the memory oracle aborts (R50, R161, R177). -/
theorem exec_fault {i : Instr} {s : State} {f : Fault} (h : exec i s = .fault f) :
    redirected s ∧ s.ctx.nvAbort = true ∧ ∃ t, i = .mrsHfgrtrEl2 t ∨ i = .msrHfgrtrEl2 t := by
  rcases accessor_or_read i with ⟨t, hacc⟩ | ⟨k, reg, hread⟩
  · obtain ⟨a, viaMem, viaReg, -, -, hexec⟩ := exec_accessor s hacc
    obtain ⟨hr, habort⟩ := accessorChain_nvMemAbort (runAccess_fault (hexec ▸ h))
    exact ⟨hr, habort, t, hacc⟩
  · cases hc : condOk s i with
    | false =>
      rw [exec_read_skipped hread hc] at h
      exact absurd (runAccess_fault h) (finish_ne_nvMemAbort s)
    | true =>
      rw [exec_read hread hc] at h
      exact absurd (runAccess_fault h) (readResult_ne_nvMemAbort s _)

theorem levelChange_ne_fault (s : State) (el : EL) (m : ISet) (pc : Word) (f : Fault) :
    levelChange s el m pc ≠ .fault f := by
  unfold levelChange
  split_ifs <;> simp

theorem setContext_ne_fault (s : State) (c : Context) (f : Fault) : setContext s c ≠ .fault f := by
  unfold setContext
  split_ifs <;> simp

/-- No input of the rest of the machine faults: each completes or is refused (log 26). -/
theorem applyRest_ne_fault (s : State) (e : RestEvent) (f : Fault) : applyRest s e ≠ .fault f := by
  cases e with
  | levelChange el m pc => exact levelChange_ne_fault s el m pc f
  | exceptionReturn =>
    unfold applyRest
    cases exceptionReturn s <;> simp
  | setContext c => exact setContext_ne_fault s c f
  | contextSync => nofun
  | writeX t v => nofun
  | writeExc t r => nofun
  | writeMem a b => nofun
  | reset draw => nofun

/-- A step that faults runs an instruction that does. -/
theorem step_fault {s : State} {f : Fault} (h : step s = .fault f) :
    ∃ i, instrAt s = some i ∧ exec i (afterTurn s) = .fault f := by
  rw [step_eq] at h
  unfold instrAt
  cases hn : inputNext s with
  | some e => exact absurd (hn ▸ h) (applyRest_ne_fault _ e f)
  | none =>
    rw [hn] at h
    cases hi : nextInstr s with
    | error r => rw [hi] at h; cases h
    | ok i => rw [hi] at h; exact ⟨i, rfl, h⟩

/-- Settles O50: the instruction is a redirected accessor, and the one fault there is is the abort. -/
theorem onlyTheRedirectedAccessFaults : Obligations.OnlyTheRedirectedAccessFaults := by
  intro s f h
  obtain ⟨i, hat, hx⟩ := step_fault h
  obtain ⟨hr, habort, t, hacc⟩ := exec_fault hx
  refine ⟨by cases f; rfl, hr, habort, t, ?_⟩
  obtain rfl | rfl := hacc
  · exact .inl hat
  · exact .inr hat

/-! ### Where an input is refused -/

/-- A change to an absent level is refused, any other completes (R172, log 26). -/
theorem levelChange_of_absent {s : State} {el : EL} (m : ISet) (pc : Word) (h : levelImplemented s.cfg el = false) :
    levelChange s el m pc = .refused .illFormedContext := by
  simp [levelChange, h]

theorem levelChange_of_implemented {s : State} {el : EL} (m : ISet) (pc : Word)
    (h : levelImplemented s.cfg el = true) : ∃ s', levelChange s el m pc = .next s' :=
  ⟨_, if_pos h⟩

theorem returnSource_el (u : Target) : returnSource u.el = some u := by cases u <;> rfl

/-- From the level `u` the exception return completes where the level saved is implemented and not higher (R164). -/
theorem exceptionReturn_isSome_iff {s : State} {u : Target} (hu : u.el = s.pstate.el) :
    (exceptionReturn s).isSome = true ↔
      levelImplemented s.cfg (excRegs s u).spsr.el = true ∧ (excRegs s u).spsr.el.num ≤ s.pstate.el.num := by
  simp only [exceptionReturn, ← hu, returnSource_el]
  split_ifs with h <;> simp [h]

theorem exceptionReturn_of_el0 {s : State} (h : s.pstate.el = .el0) : exceptionReturn s = none := by
  simp [exceptionReturn, h, returnSource]

theorem applyRest_exceptionReturn_of_none {s : State} (h : exceptionReturn s = none) :
    applyRest s .exceptionReturn = .refused .illFormedContext := by
  simp [applyRest, h]

/-- A change of context is refused off alignment, then over the program text, and else completes (R48, R55). -/
theorem setContext_of_misaligned (s : State) {c : Context} (h : c.nvBase.toNat % 8 ≠ 0) :
    setContext s c = .refused .nvBaseMisaligned := by
  simp [setContext, h]

theorem setContext_of_overlap {s : State} {c : Context} (h8 : c.nvBase.toNat % 8 = 0)
    (h : ¬ nvOffText { s with ctx := c }) : setContext s c = .refused .nvOverlapsText := by
  rw [setContext, if_pos ((nvAligned_iff _).2 h8), if_neg h]

theorem setContext_of_ready {s : State} {c : Context} (h8 : c.nvBase.toNat % 8 = 0)
    (h : nvOffText { s with ctx := c }) : setContext s c = .next { s with ctx := c } := by
  rw [setContext, if_pos ((nvAligned_iff _).2 h8), if_pos h]

/-- An input that a machine gives completes (log 26). -/
theorem applyRest_completes {s : State} {e : RestEvent}
    (level : ∀ el m pc, e = .levelChange el m pc → levelImplemented s.cfg el = true)
    (ret : e = .exceptionReturn → (exceptionReturn s).isSome = true)
    (context : ∀ c, e = .setContext c → c.nvBase.toNat % 8 = 0 ∧ nvOffText { s with ctx := c }) :
    ∃ s', applyRest s e = .next s' := by
  cases e with
  | levelChange el m pc => exact levelChange_of_implemented m pc (level el m pc rfl)
  | exceptionReturn =>
    obtain ⟨s', h⟩ := Option.isSome_iff_exists.1 (ret rfl)
    exact ⟨s', by simp [applyRest, h]⟩
  | setContext c =>
    obtain ⟨h8, hoff⟩ := context c rfl
    exact ⟨_, setContext_of_ready h8 hoff⟩
  | contextSync => exact ⟨_, rfl⟩
  | writeX t v => exact ⟨_, rfl⟩
  | writeExc t r => exact ⟨_, rfl⟩
  | writeMem a b => exact ⟨_, rfl⟩
  | reset draw => exact ⟨_, rfl⟩

/-- Settles O60: each clause is one branch of the input's own function, at the state with the turn taken. -/
theorem whereAnInputIsRefused : Obligations.WhereAnInputIsRefused := by
  intro s e hin
  rw [step_of_inputNext hin]
  refine ⟨?_, ?_, ?_, ?_, ?_, fun level ret context => applyRest_completes level (fun he => ?_) context⟩
  · rintro el m pc rfl absent
    exact levelChange_of_absent m pc absent
  · rintro rfl h0
    exact applyRest_exceptionReturn_of_none (exceptionReturn_of_el0 h0)
  · rintro u rfl hu bad
    refine applyRest_exceptionReturn_of_none (Option.not_isSome_iff_eq_none.1 fun completes => ?_)
    obtain ⟨implemented, notHigher⟩ := (exceptionReturn_isSome_iff (s := afterTurn s) hu).1 completes
    obtain absent | higher := bad
    · exact Bool.false_ne_true (absent.symm.trans implemented)
    · exact absurd higher (Nat.not_lt.2 notHigher)
  · rintro c rfl h8
    exact setContext_of_misaligned _ h8
  · rintro c rfl h8 overlap
    exact setContext_of_overlap h8 overlap
  · obtain ⟨u, hu, legal⟩ := ret he
    exact (exceptionReturn_isSome_iff (s := afterTurn s) hu).2 legal

end Sys2Proof.Machine
end

section
/-! SUPPORT. The decoder against the encoder, and the word placed for the next step. -/

namespace Sys2Proof

/-! ### The fields of the words (R58, R60) -/

theorem moveWord_head (l : BitVec 1) (p : Point) (t : BitVec 5) :
    (moveWord l p t).extractLsb' 21 11 = 0b1101010100#10 ++ l := by
  unfold moveWord
  repeat rw [BitVec.extractLsb'_append_eq_of_le (by decide)]
  exact BitVec.extractLsb'_eq_self

theorem moveWord_point (l : BitVec 1) (p : Point) (t : BitVec 5) : (moveWord l p t).extractLsb' 5 16 = p := by
  rw [moveWord, BitVec.extractLsb'_append_eq_of_le (by decide)]
  exact BitVec.extractLsb'_append_eq_right

theorem moveWord_reg (l : BitVec 1) (p : Point) (t : BitVec 5) : (moveWord l p t).extractLsb' 0 5 = t :=
  BitVec.extractLsb'_append_eq_right

theorem pairWord_head (p : Point) (t : BitVec 5) : (pairWord p t).extractLsb' 21 11 = 0b11010101011#11 := by
  unfold pairWord
  repeat rw [BitVec.extractLsb'_append_eq_of_le (by decide)]
  exact BitVec.extractLsb'_eq_self

theorem pairWord_point (p : Point) (t : BitVec 5) : (pairWord p t).extractLsb' 5 16 = p := by
  rw [pairWord, BitVec.extractLsb'_append_eq_of_le (by decide)]
  exact BitVec.extractLsb'_append_eq_right

theorem pairWord_reg (p : Point) (t : BitVec 5) : (pairWord p t).extractLsb' 0 5 = t :=
  BitVec.extractLsb'_append_eq_right

theorem mrcWord_cond (cond t : BitVec 4) (o : BitVec 3) : (mrcWord cond t o).extractLsb' 28 4 = cond := by
  unfold mrcWord
  repeat rw [BitVec.extractLsb'_append_eq_of_le (by decide)]
  exact BitVec.extractLsb'_eq_self

theorem mrcWord_reg (cond t : BitVec 4) (o : BitVec 3) : (mrcWord cond t o).extractLsb' 12 4 = t := by
  unfold mrcWord
  repeat rw [BitVec.extractLsb'_append_eq_of_le (by decide)]
  exact BitVec.extractLsb'_append_eq_right

theorem mrcWord_opc2 (cond t : BitVec 4) (o : BitVec 3) : (mrcWord cond t o).extractLsb' 5 3 = o := by
  unfold mrcWord
  repeat rw [BitVec.extractLsb'_append_eq_of_le (by decide)]
  exact BitVec.extractLsb'_append_eq_right

/-- The bits of an A32 `MRC` that are the same in both rows (R60). -/
theorem mrcWord_fixed (cond t : BitVec 4) (o : BitVec 3) :
    (mrcWord cond t o).extractLsb' 16 12 = 0b111000011101#12 ∧ (mrcWord cond t o).extractLsb' 8 4 = 0b1111#4 ∧
      (mrcWord cond t o).extractLsb' 0 5 = 0b10000#5 := by
  unfold mrcWord
  refine ⟨?_, ?_, BitVec.extractLsb'_append_eq_right⟩
  all_goals repeat rw [BitVec.extractLsb'_append_eq_of_le (by decide)]
  all_goals exact BitVec.extractLsb'_append_eq_right

/-- Where A64 has its head an `MRC` word has its condition and seven fixed bits (R58, R60). -/
theorem mrcWord_head (cond t : BitVec 4) (o : BitVec 3) :
    (mrcWord cond t o).extractLsb' 21 11 = cond ++ 0b1110000#7 := by
  have top : ∀ c : BitVec 4, (c ++ 0b111000011101#12).extractLsb' 5 11 = c ++ 0b1110000#7 := by decide
  unfold mrcWord
  repeat rw [BitVec.extractLsb'_append_eq_of_le (by decide)]
  exact top cond

/-! ### The rows of the table (R61, R70) -/

/-- The table of R61 gives each point to one register. -/
theorem SysReg.ofPoint_of_point? {r : SysReg} {p : Point} (h : r.point? = some p) : SysReg.ofPoint p = some r := by
  cases r <;> cases h <;> rfl

/-- No trapped register is at the point of `HFGRTR_EL2` (R57, R61). -/
theorem SysReg.point?_ne_hfgrtrPoint {r : SysReg} {p : Point} (h : r.point? = some p) : p ≠ hfgrtrPoint := by
  cases r <;> cases h <;> decide

/-- An `MRS` read is the `MRS` row of its register, which has a point. -/
theorem Instr.mrs_row {i : Instr} {r : SysReg} {t : BitVec 5} (h : i.access = .mrs r t) :
    ∃ p, r.point? = some p ∧ r.mrsInstr? t = some i := by
  cases i <;> cases h <;> exact ⟨_, rfl, rfl⟩

/-- An `MRRS` read is the `MRRS` row of its register, and well formed where its first register is even (R60). -/
theorem Instr.mrrs_row {i : Instr} {r : SysReg} {t : BitVec 5} (h : i.access = .mrrs r t) :
    (∃ p, r.point? = some p ∧ r.mrrsInstr? t = some i) ∧ i.wellFormed = !t.getLsbD 0 := by
  cases i <;> cases h <;> exact ⟨⟨_, rfl, rfl⟩, rfl⟩

/-- An `MRC` is one of two rows. -/
theorem Instr.mrc_row {i : Instr} {r : SysReg} {cond t : BitVec 4} (h : i.access = .mrc r cond t) :
    (r = .tpidrurw ∧ i = .mrcTpidrurw cond t) ∨ (r = .tpidruro ∧ i = .mrcTpidruro cond t) := by
  cases i <;> cases h
  · exact .inl ⟨rfl, rfl⟩
  · exact .inr ⟨rfl, rfl⟩

theorem Instr.eq_of_access_mrsH {i : Instr} {t : BitVec 5} (h : i.access = .mrsH t) : i = .mrsHfgrtrEl2 t := by
  cases i <;> cases h
  rfl

theorem Instr.eq_of_access_msrH {i : Instr} {t : BitVec 5} (h : i.access = .msrH t) : i = .msrHfgrtrEl2 t := by
  cases i <;> cases h
  rfl

/-! ### Decoding an encoded word -/

theorem decodeA64_moveWord_hfgrtr (t : BitVec 5) :
    decodeA64 (moveWord 1#1 hfgrtrPoint t) = .ok (.mrsHfgrtrEl2 t) ∧
      decodeA64 (moveWord 0#1 hfgrtrPoint t) = .ok (.msrHfgrtrEl2 t) := by
  constructor <;> simp [decodeA64, moveWord_head, moveWord_point, moveWord_reg]

theorem decodeA64_moveWord {r : SysReg} {p : Point} {t : BitVec 5} {i : Instr} (hp : r.point? = some p)
    (hi : r.mrsInstr? t = some i) : decodeA64 (moveWord 1#1 p t) = .ok i := by
  simp [decodeA64, moveWord_head, moveWord_point, moveWord_reg, SysReg.point?_ne_hfgrtrPoint hp,
    SysReg.ofPoint_of_point? hp, hi]

theorem decodeA64_pairWord {r : SysReg} {p : Point} {t : BitVec 5} {i : Instr} (hp : r.point? = some p)
    (hi : r.mrrsInstr? t = some i) (ht : t.getLsbD 0 = false) : decodeA64 (pairWord p t) = .ok i := by
  simp only [decodeA64, pairWord_head, pairWord_point, pairWord_reg, SysReg.ofPoint_of_point? hp, Option.bind_some, hi,
    ht]
  rfl

theorem decodeA32_mrcWord (cond t : BitVec 4) :
    decodeA32 (mrcWord cond t 2#3) = .ok (.mrcTpidrurw cond t) ∧
      decodeA32 (mrcWord cond t 3#3) = .ok (.mrcTpidruro cond t) := by
  constructor <;> simp [decodeA32, mrcWord_fixed, mrcWord_cond, mrcWord_reg, mrcWord_opc2]

/-- No `MRC` word is an A64 instruction (R70). -/
theorem decodeA64_mrcWord (cond t : BitVec 4) (o : BitVec 3) :
    decodeA64 (mrcWord cond t o) = .error .noSuchRow := by
  have head : ∀ c : BitVec 4, c ++ 0b1110000#7 ≠ 0b11010101001#11 ∧ c ++ 0b1110000#7 ≠ 0b11010101000#11 ∧
      c ++ 0b1110000#7 ≠ 0b11010101011#11 := by decide
  obtain ⟨hmrs, hmsr, hmrrs⟩ := head cond
  rw [decodeA64, mrcWord_head, if_neg hmrs, if_neg hmsr, if_neg hmrrs]

/-- The instruction set of a word is the one of the row it encodes, and there it is decoded to its instruction. -/
theorem decode_encodeWord {i : Instr} (hw : i.wellFormed = true) :
    (i.iset = .a64 ∧ decodeA64 (encodeWord i) = .ok i) ∨
      (i.iset = .a32 ∧ decodeA64 (encodeWord i) = .error .noSuchRow ∧ decodeA32 (encodeWord i) = .ok i) := by
  cases ha : i.access with
  | mrsH t =>
    obtain rfl := Instr.eq_of_access_mrsH ha
    exact .inl ⟨rfl, (decodeA64_moveWord_hfgrtr t).1⟩
  | msrH t =>
    obtain rfl := Instr.eq_of_access_msrH ha
    exact .inl ⟨rfl, (decodeA64_moveWord_hfgrtr t).2⟩
  | mrs r t =>
    obtain ⟨p, hp, hi⟩ := Instr.mrs_row ha
    refine .inl ⟨by rw [Instr.iset, ha], ?_⟩
    simp only [encodeWord, ha, hp, Option.getD_some, decodeA64_moveWord hp hi]
  | mrrs r t =>
    obtain ⟨⟨p, hp, hi⟩, heven⟩ := Instr.mrrs_row ha
    refine .inl ⟨by rw [Instr.iset, ha], ?_⟩
    have even : t.getLsbD 0 = false := by simpa only [heven, Bool.not_eq_true'] using hw
    simp only [encodeWord, ha, hp, Option.getD_some, decodeA64_pairWord hp hi even]
  | mrc r cond t =>
    obtain ⟨-, rfl⟩ | ⟨-, rfl⟩ := Instr.mrc_row ha
    · exact .inr ⟨rfl, decodeA64_mrcWord cond t _, (decodeA32_mrcWord cond t).1⟩
    · exact .inr ⟨rfl, decodeA64_mrcWord cond t _, (decodeA32_mrcWord cond t).2⟩

/-- A row's word is read in its row's instruction set (R70). -/
theorem tableWordISet_encodeWord {i : Instr} (hw : i.wellFormed = true) : tableWordISet (encodeWord i) = i.iset := by
  obtain ⟨hset, h64⟩ | ⟨hset, h64, h32⟩ := decode_encodeWord hw
  · rw [tableWordISet, h64, hset]
  · rw [tableWordISet, h64, h32, hset]

/-- The four bytes of a word are put together to the word (R59). -/
theorem leWord_bytes (w : InstrWord) :
    leWord (w.extractLsb' 0 8) (w.extractLsb' 8 8) (w.extractLsb' 16 8) (w.extractLsb' 24 8) = w := by
  have top : w.extractLsb' 24 8 ++ w.extractLsb' 16 8 = w.extractLsb' 16 16 :=
    BitVec.extractLsb'_append_extractLsb'_eq_extractLsb' rfl
  have upper : w.extractLsb' 16 16 ++ w.extractLsb' 8 8 = w.extractLsb' 8 24 :=
    BitVec.extractLsb'_append_extractLsb'_eq_extractLsb' rfl
  calc leWord (w.extractLsb' 0 8) (w.extractLsb' 8 8) (w.extractLsb' 16 8) (w.extractLsb' 24 8)
      = w.extractLsb' 24 8 ++ w.extractLsb' 16 8 ++ w.extractLsb' 8 8 ++ w.extractLsb' 0 8 := rfl
    _ = w.extractLsb' 8 24 ++ w.extractLsb' 0 8 := by rw [top, upper]
    _ = w := BitVec.extractLsb'_append_extractLsb'

/-- The decoder reads a well-formed instruction from its own encoding, and leaves the bytes after it (R58 to R61). -/
theorem decode_encode {i : Instr} (after : List Byte) (hw : i.wellFormed = true) :
    decode i.iset (encode i ++ after) = .ok (i, after) := by
  obtain ⟨hset, h64⟩ | ⟨hset, -, h32⟩ := decode_encodeWord hw
  · simp only [decode, encode, leBytes, List.cons_append, List.nil_append, leWord_bytes, hset, h64]
  · simp only [decode, encode, leBytes, List.cons_append, List.nil_append, leWord_bytes, hset, h32]

/-- A word given as a number is the word (R70). -/
theorem tableWord_toNat (w : InstrWord) : tableWord 32 w.toNat = w := by
  simp [tableWord, Nat.mod_eq_of_lt w.isLt]

end Sys2Proof

namespace Sys2Proof.Machine

/-! ### The bytes placed in the program text (R55, log 21) -/

/-- Bytes placed above an address leave what is listed at it. -/
theorem lookupCell_placeBytes_below (text : List Host.Cell) {a c : Nat} (bs : List Byte) (h : c < a) :
    lookupCell c (placeBytes text a bs) = lookupCell c text := by
  induction bs generalizing text a with
  | nil => rfl
  | cons b bs ih => rw [placeBytes, ih _ (by omega), lookupCell_insertCell_ne _ _ (by omega)]

/-- The bytes placed are the bytes fetched. -/
theorem textBytes_placeBytes (text : List Host.Cell) (a : Nat) (bs : List Byte) :
    textBytes (placeBytes text a bs) a bs.length = some bs := by
  induction bs generalizing text a with
  | nil => rfl
  | cons b bs ih =>
    have here : lookupCell a (placeBytes text a (b :: bs)) = some b := by
      rw [placeBytes, lookupCell_placeBytes_below _ _ (by omega), lookupCell_insertCell_same]
    have beyond : textBytes (placeBytes text a (b :: bs)) (a + 1) bs.length = some bs := ih _ _
    simp only [List.length_cons, textBytes, here, beyond]

theorem fetchBytes_placeWord (s : State) (w : InstrWord) : fetchBytes (placeWord s w) = some (leBytes w) :=
  textBytes_placeBytes s.text s.pc.toNat (leBytes w)

/-- A pc that is a multiple of 4 is aligned in every instruction set (R28). -/
theorem pcAligned_of_mod_four {s : State} (h : s.pc.toNat % 4 = 0) : pcAligned s = true := by
  have two : s.pc.extractLsb' 0 2 = 0#2 := BitVec.eq_of_toNat_eq (by simpa using h)
  have one : s.pc.extractLsb' 0 1 = 0#1 := BitVec.eq_of_toNat_eq (by simp; omega)
  unfold pcAligned
  cases s.pstate.iset <;> simp [two, one]

/-- The instruction at the pc is the one whose word is placed there (R55, log 21). -/
theorem nextInstr_placeWord {i : Instr} {s : State} (hw : i.wellFormed = true) (hpc : s.pc.toNat % 4 = 0) :
    nextInstr (placeWord s (encodeWord i)) = .ok i := by
  refine nextInstr_of_decode (after := []) (pcAligned_of_mod_four hpc) (fetchBytes_placeWord s _) ?_
  rw [placeWord_pstate, tableWordISet_encodeWord hw]
  exact decode_encode [] hw

/-- Settles O7: no turn is listed, so the step is the instruction at the pc. -/
theorem placedWordIsTheNextStep : Obligations.PlacedWordIsTheNextStep := by
  intro i s hw hpc
  rw [State.withFetchWord, tableWord_toNat, step_of_nextInstr rfl (nextInstr_placeWord hw hpc),
    afterTurn_of_rest_nil (placeWord_rest s _)]

end Sys2Proof.Machine
end

section
/-! SUPPORT. The encoder against the decoder: what the decoder accepts is the word of a row, in each instruction set. -/

namespace Sys2Proof

/-! ### The words of the encoder, from their fields (R58, R60) -/

/-- An A64 word is its head, its point and its register. -/
theorem word_eq_head_point_reg (w : InstrWord) :
    w.extractLsb' 21 11 ++ w.extractLsb' 5 16 ++ w.extractLsb' 0 5 = w := by
  have upper : w.extractLsb' 21 11 ++ w.extractLsb' 5 16 = w.extractLsb' 5 27 :=
    BitVec.extractLsb'_append_extractLsb'_eq_extractLsb' rfl
  rw [upper]
  exact BitVec.extractLsb'_append_extractLsb'

theorem moveWord_of_head {w : InstrWord} {l : BitVec 1} (h : w.extractLsb' 21 11 = 0b1101010100#10 ++ l) :
    moveWord l (w.extractLsb' 5 16) (w.extractLsb' 0 5) = w := by
  rw [moveWord, ← h]
  exact word_eq_head_point_reg w

theorem pairWord_of_head {w : InstrWord} (h : w.extractLsb' 21 11 = 0b11010101011#11) :
    pairWord (w.extractLsb' 5 16) (w.extractLsb' 0 5) = w := by
  rw [pairWord, ← h]
  exact word_eq_head_point_reg w

theorem mrcWord_of_fixed {w : InstrWord} (h16 : w.extractLsb' 16 12 = 0b111000011101#12)
    (h8 : w.extractLsb' 8 4 = 0b1111#4) (h0 : w.extractLsb' 0 5 = 0b10000#5) :
    mrcWord (w.extractLsb' 28 4) (w.extractLsb' 12 4) (w.extractLsb' 5 3) = w := by
  have from16 : w.extractLsb' 28 4 ++ w.extractLsb' 16 12 = w.extractLsb' 16 16 :=
    BitVec.extractLsb'_append_extractLsb'_eq_extractLsb' rfl
  have from12 : w.extractLsb' 16 16 ++ w.extractLsb' 12 4 = w.extractLsb' 12 20 :=
    BitVec.extractLsb'_append_extractLsb'_eq_extractLsb' rfl
  have from8 : w.extractLsb' 12 20 ++ w.extractLsb' 8 4 = w.extractLsb' 8 24 :=
    BitVec.extractLsb'_append_extractLsb'_eq_extractLsb' rfl
  have from5 : w.extractLsb' 8 24 ++ w.extractLsb' 5 3 = w.extractLsb' 5 27 :=
    BitVec.extractLsb'_append_extractLsb'_eq_extractLsb' rfl
  rw [mrcWord, ← h16, ← h8, ← h0, from16, from12, from8, from5]
  exact BitVec.extractLsb'_append_extractLsb'

/-! ### From a row to its instruction (R61, R70) -/

/-- The register that the table of R61 gives to a point is at that point. -/
theorem SysReg.point?_of_ofPoint {r : SysReg} {p : Point} (h : SysReg.ofPoint p = some r) : r.point? = some p := by
  simpa using List.find?_some h

/-- The `MRS` row of a register reads it, and is well formed with every operand (R66). -/
theorem SysReg.mrsInstr?_access {r : SysReg} {t : BitVec 5} {i : Instr} (h : r.mrsInstr? t = some i) :
    i.access = .mrs r t ∧ i.wellFormed = true := by
  cases r <;> cases h <;> exact ⟨rfl, rfl⟩

/-- The `MRRS` row of a register reads it, and is well formed where its first register is even (R60). -/
theorem SysReg.mrrsInstr?_access {r : SysReg} {t : BitVec 5} {i : Instr} (h : r.mrrsInstr? t = some i) :
    i.access = .mrrs r t ∧ i.wellFormed = !t.getLsbD 0 := by
  cases r <;> cases h <;> exact ⟨rfl, rfl⟩

/-- The `MRS` row that the decoder finds for a point is encoded with that point. -/
theorem encodeWord_mrsRow {p : Point} {t : BitVec 5} {i : Instr}
    (h : (SysReg.ofPoint p).bind (SysReg.mrsInstr? t) = some i) :
    i.wellFormed = true ∧ i.iset = .a64 ∧ encodeWord i = moveWord 1#1 p t := by
  obtain ⟨r, hr, hi⟩ := Option.bind_eq_some_iff.1 h
  obtain ⟨ha, hw⟩ := SysReg.mrsInstr?_access hi
  exact ⟨hw, by rw [Instr.iset, ha],
    by simp only [encodeWord, ha, SysReg.point?_of_ofPoint hr, Option.getD_some]⟩

/-- The `MRRS` row that the decoder finds for a point is encoded with that point. -/
theorem encodeWord_mrrsRow {p : Point} {t : BitVec 5} {i : Instr}
    (h : (SysReg.ofPoint p).bind (SysReg.mrrsInstr? t) = some i) :
    (i.wellFormed = !t.getLsbD 0) ∧ i.iset = .a64 ∧ encodeWord i = pairWord p t := by
  obtain ⟨r, hr, hi⟩ := Option.bind_eq_some_iff.1 h
  obtain ⟨ha, hw⟩ := SysReg.mrrsInstr?_access hi
  exact ⟨hw, by rw [Instr.iset, ha],
    by simp only [encodeWord, ha, SysReg.point?_of_ofPoint hr, Option.getD_some]⟩

/-! ### Encoding a decoded word -/

/-- A word that A64 accepts is the one of the A64 row it is decoded to. -/
theorem encodeWord_of_decodeA64 {w : InstrWord} {i : Instr} (h : decodeA64 w = .ok i) :
    i.wellFormed = true ∧ i.iset = .a64 ∧ encodeWord i = w := by
  simp only [decodeA64] at h
  split at h
  case isTrue mrs =>
    have hword : moveWord 1#1 (w.extractLsb' 5 16) (w.extractLsb' 0 5) = w := moveWord_of_head mrs
    split at h
    case isTrue own =>
      cases h
      exact ⟨rfl, rfl, by rw [own] at hword; exact hword⟩
    case isFalse =>
      split at h <;> cases h
      next row => rw [← hword]; exact encodeWord_mrsRow row
  case isFalse =>
  split at h
  case isTrue msr =>
    have hword : moveWord 0#1 (w.extractLsb' 5 16) (w.extractLsb' 0 5) = w := moveWord_of_head msr
    split at h <;> cases h
    next own => exact ⟨rfl, rfl, by rw [own] at hword; exact hword⟩
  case isFalse =>
  split at h
  case isTrue mrrs =>
    split at h
    next row =>
      split at h <;> cases h
      next even =>
        obtain ⟨hw, hset, henc⟩ := encodeWord_mrrsRow row
        exact ⟨by simpa only [hw, Bool.not_eq_true', Bool.not_eq_true] using even, hset,
          henc.trans (pairWord_of_head mrrs)⟩
    next => cases h
  case isFalse => cases h

/-- A word that A32 accepts is the one of the `MRC` it is decoded to. -/
theorem encodeWord_of_decodeA32 {w : InstrWord} {i : Instr} (h : decodeA32 w = .ok i) :
    i.wellFormed = true ∧ i.iset = .a32 ∧ encodeWord i = w := by
  unfold decodeA32 at h
  split at h
  case isTrue fixed =>
    obtain ⟨h16, h8, h0⟩ := fixed
    have hword := mrcWord_of_fixed h16 h8 h0
    split at h
    case isTrue urw =>
      cases h
      exact ⟨rfl, rfl, by rw [urw] at hword; exact hword⟩
    case isFalse =>
      split at h <;> cases h
      next uro => exact ⟨rfl, rfl, by rw [uro] at hword; exact hword⟩
  case isFalse => cases h

/-- A word that T32 accepts is an `MRC`'s with condition `1110` (R60). -/
theorem encodeWord_of_decodeT32 {w : InstrWord} {i : Instr} (h : decodeT32 w = .ok i) :
    i.wellFormed = true ∧ i.iset = .a32 ∧ encodeWord i = w ∧ (encodeWord i).extractLsb' 28 4 = 0b1110#4 := by
  unfold decodeT32 at h
  split at h
  case isTrue always =>
    obtain ⟨hw, hset, henc⟩ := encodeWord_of_decodeA32 h
    exact ⟨hw, hset, henc, by rw [henc]; exact always⟩
  case isFalse => cases h

/-! ### The bytes of a word (R59, R60, R69) -/

/-- The bytes of the word of four bytes are those bytes (R59). -/
theorem leBytes_leWord (b0 b1 b2 b3 : Byte) : leBytes (leWord b0 b1 b2 b3) = [b0, b1, b2, b3] := by
  have at0 : (leWord b0 b1 b2 b3).extractLsb' 0 8 = b0 := BitVec.extractLsb'_append_eq_right
  have at8 : (leWord b0 b1 b2 b3).extractLsb' 8 8 = b1 := by
    rw [leWord, BitVec.extractLsb'_append_eq_of_le (by decide)]
    exact BitVec.extractLsb'_append_eq_right
  have at16 : (leWord b0 b1 b2 b3).extractLsb' 16 8 = b2 := by
    rw [leWord]
    repeat rw [BitVec.extractLsb'_append_eq_of_le (by decide)]
    exact BitVec.extractLsb'_append_eq_right
  have at24 : (leWord b0 b1 b2 b3).extractLsb' 24 8 = b3 := by
    rw [leWord]
    repeat rw [BitVec.extractLsb'_append_eq_of_le (by decide)]
    exact BitVec.extractLsb'_eq_self
  rw [leBytes, at0, at8, at16, at24]

/-- The T32 word of four bytes is the little-endian word with the two halfwords exchanged (R60). -/
theorem thumbWord_eq_leWord (b0 b1 b2 b3 : Byte) : thumbWord b0 b1 b2 b3 = leWord b2 b3 b0 b1 := rfl

/-- The T32 bytes of an instruction whose word is that of two halfwords are the bytes of the halfwords (R60). -/
theorem encodeT32_of_thumbWord {i : Instr} {b0 b1 b2 b3 : Byte} (h : encodeWord i = thumbWord b0 b1 b2 b3) :
    encodeT32 i = [b0, b1, b2, b3] := by
  have bytes := leBytes_leWord b2 b3 b0 b1
  rw [← thumbWord_eq_leWord, ← h] at bytes
  simp only [leBytes, List.cons.injEq] at bytes
  obtain ⟨e0, e8, e16, e24, -⟩ := bytes
  simp only [encodeT32, e0, e8, e16, e24]

/-! ### The decoder on bytes -/

/-- Bytes that the decoder accepts begin with four whose word the instruction set accepts, and the others are left. -/
theorem decode_ok {m : ISet} {bytes after : List Byte} {i : Instr} (h : decode m bytes = .ok (i, after)) :
    ∃ b0 b1 b2 b3, bytes = [b0, b1, b2, b3] ++ after ∧
      match m with
      | .a64 => decodeA64 (leWord b0 b1 b2 b3) = .ok i
      | .a32 => decodeA32 (leWord b0 b1 b2 b3) = .ok i
      | .t32 => decodeT32 (thumbWord b0 b1 b2 b3) = .ok i := by
  unfold decode at h
  split at h
  · next b0 b1 b2 b3 rest =>
    simp only at h
    split at h <;> cases h
    next hr =>
      refine ⟨b0, b1, b2, b3, rfl, ?_⟩
      cases m <;> exact hr
  · cases h

/-- A T32 `MRC` with condition `1110` is read from its two halfwords (R60). -/
theorem decode_encodeT32 {i : Instr} (after : List Byte) (hw : i.wellFormed = true) (hset : i.iset = .a32)
    (hc : (encodeWord i).extractLsb' 28 4 = 0b1110#4) : decode .t32 (encodeT32 i ++ after) = .ok (i, after) := by
  obtain ⟨h64, -⟩ | ⟨-, -, h32⟩ := decode_encodeWord hw
  · rw [hset] at h64
    cases h64
  · simp only [decode, encodeT32, List.cons_append, List.nil_append, thumbWord_eq_leWord, leWord_bytes, decodeT32, hc,
      if_true, h32]

/-! ### The obligations -/

/-- Settles O1: the row of a well-formed instruction is read from its word. -/
theorem decodeOfEncodeIsTheInstruction : Obligations.DecodeOfEncodeIsTheInstruction :=
  fun _ after hw => decode_encode after hw

/-- Settles O2: in each instruction set the word of the four bytes is the one that encodes what it is decoded to. -/
theorem decodedBytesAreTheEncoding : Obligations.DecodedBytesAreTheEncoding := by
  intro m bytes after i h
  obtain ⟨b0, b1, b2, b3, rfl, hd⟩ := decode_ok h
  cases m with
  | a64 =>
    obtain ⟨hw, hset, henc⟩ := encodeWord_of_decodeA64 hd
    exact ⟨hw, fun _ => ⟨hset, by rw [encode, henc, leBytes_leWord]⟩, nofun, nofun⟩
  | a32 =>
    obtain ⟨hw, hset, henc⟩ := encodeWord_of_decodeA32 hd
    exact ⟨hw, nofun, fun _ => ⟨hset, by rw [encode, henc, leBytes_leWord]⟩, nofun⟩
  | t32 =>
    obtain ⟨hw, hset, henc, always⟩ := encodeWord_of_decodeT32 hd
    exact ⟨hw, nofun, nofun, fun _ => ⟨hset, by rw [encodeT32_of_thumbWord henc], always⟩⟩

/-- Settles O3: the condition of the word is the `MRC`'s own. -/
theorem thumbDecodeOfEncodeIsTheInstruction : Obligations.ThumbDecodeOfEncodeIsTheInstruction := by
  rintro t i after (rfl | rfl) <;> exact decode_encodeT32 after rfl rfl (mrcWord_cond _ t _)

/-- Settles O5: the table's number is the word, read in the instruction set of its row. -/
theorem tableWordIsItsInstruction : Obligations.TableWordIsItsInstruction := by
  intro i hw
  have read : decode i.iset (leBytes (encodeWord i)) = .ok (i, []) := decode_encode [] hw
  rw [decodeTableWord, tableWord_toNat, tableWordISet_encodeWord hw, read]

/-- Settles O4: each number is the encoder's own of the instruction it stands for. -/
theorem wordsOfTheSpecDecode : Obligations.WordsOfTheSpecDecode :=
  ⟨tableWordIsItsInstruction (.mrsHfgrtrEl2 0#5) rfl, tableWordIsItsInstruction (.msrHfgrtrEl2 31#5) rfl,
    tableWordIsItsInstruction (.mrsVbarEl1 0#5) rfl, tableWordIsItsInstruction (.mrsTpidrEl0 30#5) rfl,
    tableWordIsItsInstruction (.mrrsParEl1 2#5) rfl, tableWordIsItsInstruction (.mrcTpidruro 0b1110#4 5#4) rfl⟩

end Sys2Proof

namespace Sys2Proof.Machine

/-! ### Bytes that are no instruction (R68) -/

theorem textBytes_length {text : List Host.Cell} {a n : Nat} {bytes : List Byte}
    (h : textBytes text a n = some bytes) : bytes.length = n := by
  induction n generalizing a bytes with
  | zero => cases h; rfl
  | succ n ih =>
    unfold textBytes at h
    split at h <;> cases h
    next later => rw [List.length_cons, ih later]

/-- The step of a state with no instruction at its pc is refused, for the reason there is none (R68, R199). -/
theorem step_of_nextInstr_error {s : State} {r : Refusal} (hin : inputNext s = none) (hr : nextInstr s = .error r) :
    step s = .refused r := by
  rw [step_eq, hin, hr]

/-- Bytes at an aligned pc that the decoder refuses are no instruction (R68). -/
theorem nextInstr_of_decode_error {s : State} {bytes : List Byte} {e : DecodeError} (ha : pcAligned s = true)
    (hb : fetchBytes s = some bytes) (hd : decode s.pstate.iset bytes = .error e) :
    nextInstr s = .error (.undecoded e) := by
  simp [nextInstr, ha, hb, hd]

/-- Four bytes that the decoder accepts are the encoding of a well-formed instruction, in one of the two layouts. -/
theorem eq_encode_of_decode {m : ISet} {bytes after : List Byte} {i : Instr} (hlen : bytes.length = 4)
    (h : decode m bytes = .ok (i, after)) : i.wellFormed = true ∧ (bytes = encode i ∨ bytes = encodeT32 i) := by
  obtain ⟨b0, b1, b2, b3, rfl, -⟩ := decode_ok h
  obtain rfl : after = [] := List.eq_nil_of_length_eq_zero (by simpa using hlen)
  obtain ⟨hw, h64, h32, hT⟩ := decodedBytesAreTheEncoding _ _ _ _ h
  simp only [List.append_nil] at h64 h32 hT ⊢
  refine ⟨hw, ?_⟩
  cases m with
  | a64 =>
    obtain ⟨-, own⟩ := h64 rfl
    exact .inl own
  | a32 =>
    obtain ⟨-, own⟩ := h32 rfl
    exact .inl own
  | t32 =>
    obtain ⟨-, own, -⟩ := hT rfl
    exact .inr own

/-- Settles O8: were the four bytes accepted they would be the encoding of what they are decoded to. -/
theorem otherWordsAreRefused : Obligations.OtherWordsAreRefused := by
  intro s bytes hin ha hb other
  cases hd : decode s.pstate.iset bytes with
  | error e => exact ⟨e, step_of_nextInstr_error hin (nextInstr_of_decode_error ha hb hd)⟩
  | ok read =>
    obtain ⟨i, after⟩ := read
    obtain ⟨hw, own⟩ := eq_encode_of_decode (textBytes_length hb) hd
    obtain ⟨notRow, notT32⟩ := other i hw
    exact (own.elim notRow notT32).elim

end Sys2Proof.Machine
end

section
/-! SUPPORT. The trap predicate: the common condition, the {E2H, TGE} condition, and which reads it covers. -/

namespace Sys2Proof.Machine

/-! ### The common condition (R74) -/

theorem fgrtCommon_iff (s : State) :
    fgrtCommon s = true ↔ (s.cfg.haveEL2 = true ∧ s.ctx.el2Enabled = true) ∧ gateOpen s := by
  simp [fgrtCommon, el2Enabled, fgtEn]

/-- Settles O27: the condition does not look at the register or at the pending write. -/
theorem commonConditionGatesEveryTrap : Obligations.CommonConditionGatesEveryTrap := by
  intro s
  refine ⟨fgrtCommon_iff s, fun v p r h => ?_⟩
  exact trapped_eq_false_of_fgrtCommon (s := { s with hfgrtr := v, pending := p }) r h

/-! ### The {E2H, TGE} condition (R75) -/

/-- The fields whose entries say "at EL1 and EL0", as R75 lists them. -/
theorem coversEL0_iff_mem (f : Field) :
    f.coversEL0 = true ↔ f ∈ [Field.nPorEl0, Field.nTpidr2El0, Field.nGcsEl0, Field.tpidrEl0, Field.tpidrroEl0,
      Field.scxtnumEl0, Field.dczidEl0, Field.ctrEl0] := by
  cases f <;> decide

/-- A state with another value of {E2H, TGE}. -/
def withE2hTge (w : BitVec 2) (s : State) : State := { s with ctx := { s.ctx with e2hTge := w } }

/-- Without EL2 the effective pair is {0, 0} (R25, log 25), so that it is {1, 1} only as the context gives it. -/
theorem effE2hTge_eq_11_iff (s : State) :
    effE2hTge s = 0b11#2 ↔ s.cfg.haveEL2 = true ∧ s.ctx.e2hTge = 0b11#2 := by
  unfold effE2hTge
  split_ifs with h <;> simp [h]

/-- A field that covers EL0 traps nothing while the effective pair is {1, 1} (R75). -/
theorem fgrtTraps_eq_false_of_effE2hTge {s : State} {f : Field} (r : Read) (h0 : f.coversEL0 = true)
    (h : effE2hTge s = 0b11#2) : fgrtTraps s r f = false := by
  rw [Bool.eq_false_iff, Ne, fgrtTraps_iff]
  rintro ⟨-, -, -, -, host, -⟩
  exact host h0 h

/-- The pair enters a field's rule by its being {1, 1} alone, and only if the field covers EL0 (R75, R77). -/
theorem fgrtTraps_withE2hTge {s : State} {f : Field} (v w : BitVec 2) (r : Read)
    (h : f.coversEL0 = true → v ≠ 0b11#2 ∧ w ≠ 0b11#2) :
    fgrtTraps (withE2hTge w s) r f = fgrtTraps (withE2hTge v s) r f := by
  have host : (f.coversEL0 = true → effE2hTge (withE2hTge w s) ≠ 0b11#2) ↔
      (f.coversEL0 = true → effE2hTge (withE2hTge v s) ≠ 0b11#2) := by
    refine imp_congr_right fun h0 => iff_of_true ?_ ?_
    · exact fun e => (h h0).2 ((effE2hTge_eq_11_iff _).1 e).2
    · exact fun e => (h h0).1 ((effE2hTge_eq_11_iff _).1 e).2
  rw [Bool.eq_iff_iff, fgrtTraps_iff, fgrtTraps_iff, host]
  rfl

/-- Settles O28: by what of the pair a field's rule sees. -/
theorem hostAtEL2Condition : Obligations.HostAtEL2Condition := by
  intro s r f
  refine ⟨coversEL0_iff_mem f, fun h0 h2 h => ?_, fun _ w hw => ?_, fun h0 w => ?_⟩
  · exact fgrtTraps_eq_false_of_effE2hTge r h0 ((effE2hTge_eq_11_iff s).2 ⟨h2, h⟩)
  · exact fgrtTraps_withE2hTge 0b00#2 w r fun _ => ⟨by decide, hw⟩
  · exact fgrtTraps_withE2hTge s.ctx.e2hTge w r fun h1 => by simp [h0] at h1

/-! ### The reads that can be trapped -/

/-- Every field covers EL1, some cover EL0, and none covers EL2 or EL3 (R75, R77). -/
theorem coversLevel_iff (f : Field) (el : EL) :
    Field.coversLevel f el = true ↔ el = .el1 ∨ (el = .el0 ∧ f.coversEL0 = true) := by
  cases el <;> simp [Field.coversLevel]

/-- Settles O29: each clause is a conjunct of `FGRT_Traps` or of `Covers`, of the field that traps the read. -/
theorem whatATrappedReadIs : Obligations.WhatATrappedReadIs := by
  intro s r h
  obtain ⟨f, hf⟩ := (trapped_iff_exists s r).1 h
  obtain ⟨hfgt, hfeat, ⟨h64, hcov⟩, hcommon, -⟩ := (fgrtTraps_iff s r f).1 hf
  obtain ⟨hfield, hlevel, -, hset⟩ := (covers_iff _ _ _).1 hcov
  obtain ⟨⟨h2, -⟩, -⟩ := (fgrtCommon_iff s).1 hcommon
  have level := (coversLevel_iff f r.el).1 hlevel
  refine ⟨?_, ⟨f, hfield, hfeat, fun h0 => ?_⟩, fun hk => ?_, h64, fun hk => ?_, hfgt, h2⟩
  · exact level.elim .inr fun l => .inl l.1
  · obtain h1 | ⟨-, cov⟩ := level
    · rw [h0] at h1
      cases h1
    · exact cov
  · rw [if_pos hk] at hset
    exact hset.symm
  · rwa [if_neg hk] at hset

/-! ### One field for a read (R167) -/

/-- Every instruction runs one access. -/
theorem exists_exec_runAccess (i : Instr) (s : State) : ∃ a r, exec i s = runAccess s a r := by
  rcases accessor_or_read i with ⟨t, hacc⟩ | ⟨k, reg, hread⟩
  · obtain ⟨a, viaMem, viaReg, -, -, hexec⟩ := exec_accessor s hacc
    exact ⟨a, _, hexec⟩
  · obtain ⟨r, hexec⟩ := exists_exec_read s hread
    exact ⟨_, r, hexec⟩

/-- Settles O30: `Covers` names the one field of the read's register, and every instruction runs an access, which
checks the configuration. -/
theorem atMostOneFieldCoversARead : Obligations.AtMostOneFieldCoversARead := by
  refine ⟨fun c f g r hf hg => ?_, fun i s hw => ?_, fun i t hi => ?_⟩
  · obtain ⟨ef, -⟩ := (covers_iff c f r).1 hf
    obtain ⟨eg, -⟩ := (covers_iff c g r).1 hg
    exact Option.some.inj (ef.symm.trans eg)
  · obtain ⟨a, r, hexec⟩ := exists_exec_runAccess i s
    rw [hexec, runAccess_of_illFormed a r hw]
  · rcases hi with rfl | rfl <;> rfl

end Sys2Proof.Machine
end

section
/-! SUPPORT. What a read does: the exception of higher priority, the trap to EL2, or the rest of the machine. -/

namespace Sys2Proof.Machine

/-! ### The three results of a read (R77) -/

@[simp] theorem readIn_el (s : State) (k : ReadKind) (reg : SysReg) : (readIn s k reg).el = s.pstate.el := rfl

section
variable {i : Instr} {k : ReadKind} {reg : SysReg} {s : State}

/-- An exception of higher priority is raised in the place of the read (R78). -/
theorem exec_read_of_higherPriority {e : Exn} (hr : readOf i = some (k, reg)) (hw : s.Wf) (hc : condOk s i = true)
    (hp : higherPriority s (readIn s k reg) = some e) : exec i s = raiseException s i.access e := by
  have result : readResult s (readIn s k reg) = .raise e := by rw [readResult, hp]
  rw [exec_read hr hc, runAccess_of_wf _ _ hw, result]
  rfl

/-- A trapped read enters the exception at EL2, which is there and not below the level of the read (R77, R157). -/
theorem exec_read_of_trapped (hr : readOf i = some (k, reg)) (hw : s.Wf) (hc : condOk s i = true)
    (hp : higherPriority s (readIn s k reg) = none) (ht : trapped s (readIn s k reg) = true) :
    exec i s = .next (enterException s .el2 (ecOf s.cfg k) (syndromeISS s i.access (ecOf s.cfg k))) := by
  have result : readResult s (readIn s k reg) = .raise (.trap .el2 (ecOf s.cfg k)) := by
    rw [readResult, hp]
    exact if_pos ht
  obtain ⟨level, -, -, -, -, -, h2⟩ := whatATrappedReadIs s _ ht
  have below : s.pstate.el.num ≤ Target.el2.el.num := by
    rw [readIn_el] at level
    obtain h | h := level <;> rw [h] <;> decide
  rw [exec_read hr hc, runAccess_of_wf _ _ hw, result]
  exact takeException_eq h2 below (by simp)

/-- A read that is not trapped is handed to the rest of the machine (R79). -/
theorem exec_read_of_not_trapped (hr : readOf i = some (k, reg)) (hw : s.Wf) (hc : condOk s i = true)
    (hp : higherPriority s (readIn s k reg) = none) (ht : trapped s (readIn s k reg) = false) :
    exec i s = handOver s i.access := by
  have result : readResult s (readIn s k reg) = .notThisHardware := by
    rw [readResult, hp]
    exact if_neg (Bool.eq_false_iff.1 ht)
  rw [exec_read hr hc, runAccess_of_wf _ _ hw, result]
  rfl

/-- A read whose condition fails moves the pc on (log 23). -/
theorem exec_read_of_not_condOk (hr : readOf i = some (k, reg)) (hw : s.Wf) (hc : condOk s i = false)
    (room : pcHasRoom s) : exec i s = .next (advance s) := by
  rw [exec_read_skipped hr hc, runAccess_of_wf _ _ hw, deliver_finish _ room]

end

/-- Settles O33: the oracle, the check of the state and the condition do not look at the register. -/
theorem higherPriorityComesFirst : Obligations.HigherPriorityComesFirst := by
  intro i k reg s e v p hr hw hc hp
  exact exec_read_of_higherPriority (s := { s with hfgrtr := v, pending := p }) hr hw hc hp

/-! ### A read covered by a field in its trapping state (R76, R77) -/

/-- A field covers the reads of the kinds it governs, at the levels and in the execution state R77 asks for. -/
theorem covers_readIn {s : State} {k : ReadKind} {reg : SysReg} {f : Field} (hf : s.cfg.fieldOf reg = some f)
    (hk : k ∈ f.kinds)
    (h64 : k ≠ .mrc → s.pstate.iset = .a64 ∧ (s.pstate.el = .el1 ∨ (s.pstate.el = .el0 ∧ f.coversEL0 = true)))
    (h32 : k = .mrc → s.pstate.iset ≠ .a64 ∧ s.pstate.el = .el0 ∧ f.coversEL0 = true) :
    covers s.cfg f (readIn s k reg) = true := by
  rw [covers_iff, coversLevel_iff]
  by_cases hm : (readIn s k reg).kind = .mrc
  · obtain ⟨hset, hlevel⟩ := h32 hm
    refine ⟨hf, .inr hlevel, hk, ?_⟩
    rw [if_pos hm]
    exact ⟨hset, hlevel.1⟩
  · obtain ⟨hset, hlevel⟩ := h64 hm
    refine ⟨hf, hlevel, hk, ?_⟩
    rw [if_neg hm]
    exact hset

/-- A covered read is trapped exactly when its field is in its trapping state, once the conditions hold that do not
look at the register (R77). -/
theorem trapped_readIn {s : State} {k : ReadKind} {reg : SysReg} {f : Field}
    (hcov : covers s.cfg f (readIn s k reg) = true) (hfgt : s.cfg.haveFGT = true) (hfeat : s.cfg.featOf f = true)
    (hcommon : fgrtCommon s = true) (hhost : f.coversEL0 = true → s.ctx.e2hTge ≠ 0b11#2)
    (h64 : s.ctx.el1A64 = true) : trapped s (readIn s k reg) = fieldTraps s f := by
  obtain ⟨hfield, -⟩ := (covers_iff _ _ _).1 hcov
  have host : f.coversEL0 = true → effE2hTge s ≠ 0b11#2 := fun h0 e => hhost h0 ((effE2hTge_eq_11_iff s).1 e).2
  rw [trapped_eq_of_fieldOf hfield, Bool.eq_iff_iff, fgrtTraps_iff]
  refine ⟨fun ⟨_, _, _, _, _, _, on⟩ => on, fun on => ?_⟩
  exact ⟨hfgt, hfeat, ⟨h64, hcov⟩, hcommon, host, fun _ => h64, on⟩

/-- Settles O31: the field covers the read, so that its trapping state decides. -/
theorem coveredReadTrapsToEL2 : Obligations.CoveredReadTrapsToEL2 := by
  intro i k reg f s hr hw hc hp hfield hfgt hfeat hk h64 h32 h2 he2 hgate hhost ha64 hbit
  have hcov : covers s.cfg f (readIn s k reg) = true := covers_readIn hfield hk h64 h32
  have hcommon : fgrtCommon s = true := (fgrtCommon_iff s).2 ⟨⟨h2, he2⟩, hgate⟩
  have on : fieldTraps s f = true := by
    rw [fieldTraps, hbit]
    exact beq_self_eq_true _
  have ht : trapped s (readIn s k reg) = true := by
    rw [trapped_readIn hcov hfgt hfeat hcommon hhost ha64, on]
  exact ⟨_, exec_read_of_trapped hr hw hc hp ht, readX_enterException s _ _ _⟩

/-! ### The rule of each field (R80 to R143) -/

/-- The row of R17 that names a register, written out in `SysReg.ruleRow`, is that of the field whose set holds it. -/
theorem exists_field_of_ruleRow {c : Config} (h : defaultTables c) (reg : SysReg) :
    ∃ f, c.fieldOf reg = some f ∧ c.bitOf f = reg.ruleRow.1 ∧ f.trapVal = reg.ruleRow.2.1 ∧
      f.coversEL0 = reg.ruleRow.2.2 := by
  obtain ⟨hbits, hsets, -⟩ := h
  unfold Config.fieldOf Config.bitOf
  rw [hbits, hsets]
  cases reg <;> exact ⟨_, rfl, rfl, rfl, rfl⟩

/-- With no field absent every field is there (R21). -/
theorem featOf_of_defaultTables {c : Config} (h : defaultTables c) (f : Field) : c.featOf f = true := by
  obtain ⟨-, -, habsent⟩ := h
  simp [Config.featOf, habsent]

/-- The field whose set holds a register governs every kind of read the table has of it: a case for each
row (R77). -/
theorem readOf_kind_mem {c : Config} (h : defaultTables c) {i : Instr} {k : ReadKind} {reg : SysReg} {f : Field}
    (hr : readOf i = some (k, reg)) (hf : c.fieldOf reg = some f) : k ∈ f.kinds := by
  obtain ⟨-, hsets, -⟩ := h
  unfold Config.fieldOf at hf
  rw [hsets] at hf
  cases i <;> cases hr <;> cases hf <;> decide

/-- The fields that govern an `MRC` cover EL0 (R108, R109). -/
theorem coversEL0_of_mrc_mem {f : Field} (h : ReadKind.mrc ∈ f.kinds) : f.coversEL0 = true := by
  revert h
  cases f <;> decide

/-- Settles O32: the register's row is that of its field, whose trapping state decides. -/
theorem everyReadFollowsItsFieldRule : Obligations.EveryReadFollowsItsFieldRule := by
  intro i k reg s hr hw htab hc hp hpend hfgt h2 he2 hgate hhost ha64 h64 h32
  obtain ⟨f, hfield, hbit, hval, hel0⟩ := exists_field_of_ruleRow htab reg
  have hk : k ∈ f.kinds := readOf_kind_mem htab hr hfield
  have hcov : covers s.cfg f (readIn s k reg) = true := by
    refine covers_readIn hfield hk (fun hm => hel0 ▸ h64 hm) fun hm => ?_
    obtain ⟨hset, hlevel⟩ := h32 hm
    exact ⟨hset, hlevel, coversEL0_of_mrc_mem (hm ▸ hk)⟩
  have hfeat : s.cfg.featOf f = true := featOf_of_defaultTables htab f
  have hcommon : fgrtCommon s = true := (fgrtCommon_iff s).2 ⟨⟨h2, he2⟩, hgate⟩
  have ht : trapped s (readIn s k reg) = (s.hfgrtr.getLsbD reg.ruleRow.1 == reg.ruleRow.2.1) := by
    rw [trapped_readIn hcov hfgt hfeat hcommon (fun _ => hhost) ha64, fieldTraps, governing_of_not_pending hpend,
      hbit, hval]
  refine ⟨fun on => ?_, fun off => ?_⟩
  · exact exec_read_of_trapped hr hw hc hp (ht.trans (beq_iff_eq.2 on))
  · exact exec_read_of_not_trapped hr hw hc hp (ht.trans (beq_eq_false_iff_ne.2 off))

/-! ### A read handed to the rest of the machine (R79) -/

/-- With room for the pc, a read that the rest of the machine completes has its destination written and moves on
(R79, log 5). -/
theorem handOver_of_completes {s : State} (a : Access) (hu : s.ctx.untrapped = .completes) (room : pcHasRoom s) :
    handOver s a = .next (advance (completeRead s a)) := by
  have done : finish (completeRead s a) = .next (advance (completeRead s a)) := finish_of_room (by simpa using room)
  simp only [handOver, hu, done]

/-- An exception of the rest of the machine is raised in the place of the read (R79, log 5). -/
theorem handOver_of_raises {s : State} {e : Exn} (a : Access) (hu : s.ctx.untrapped = .raises e) :
    handOver s a = raiseException s a e := by
  simp only [handOver, hu]

/-- A read that is not trapped, and that the rest of the machine completes, does that and no more (R79, log 5). -/
theorem exec_read_of_completes {i : Instr} {k : ReadKind} {reg : SysReg} {s : State} (hr : readOf i = some (k, reg))
    (hw : s.Wf) (hc : condOk s i = true) (hp : higherPriority s (readIn s k reg) = none)
    (ht : trapped s (readIn s k reg) = false) (hu : s.ctx.untrapped = .completes) (room : pcHasRoom s) :
    exec i s = .next (advance (completeRead s i.access)) := by
  rw [exec_read_of_not_trapped hr hw hc hp ht, handOver_of_completes _ hu room]

/-- Settles O39: the completion of an `MRS` writes the low 64 bits of the free value. -/
theorem untrappedMrsCompletes : Obligations.UntrappedMrsCompletes := by
  intro i reg t s ha hw room hp hu ht
  have hr : readOf i = some (.mrs, reg) := by rw [readOf, ha]
  have hc : condOk s i = true := by rw [condOk, ha]
  rw [exec_read_of_completes hr hw hc hp ht hu room, ha]
  rfl

/-- Settles O40: the completion of an `MRRS` writes the pair. -/
theorem untrappedMrrsCompletes : Obligations.UntrappedMrrsCompletes := by
  intro i reg t s ha hw room hp hu ht
  have hr : readOf i = some (.mrrs, reg) := by rw [readOf, ha]
  have hc : condOk s i = true := by rw [condOk, ha]
  rw [exec_read_of_completes hr hw hc hp ht hu room, ha]
  rfl

/-- Settles O41: the completion of an `MRC` writes the register of its number, and none for number 15. -/
theorem untrappedMrcCompletes : Obligations.UntrappedMrcCompletes := by
  intro i reg cond t s ha hw room
  have hr : readOf i = some (.mrc, reg) := by rw [readOf, ha]
  have hcond : condOk s i = condHolds s cond := by rw [condOk, ha]
  refine ⟨fun hc => exec_read_of_not_condOk hr hw (hcond.trans hc) room, fun hc hp hu ht => ?_⟩
  rw [exec_read_of_completes hr hw (hcond.trans hc) hp ht hu room, ha]
  refine ⟨fun h15 => ?_, fun h15 => ?_⟩
  · rw [completeRead, writeR, if_neg h15]
    rfl
  · rw [completeRead, writeR, if_pos h15]
    rfl

/-- Settles O42: the exception of the rest of the machine is raised, and can be taken at its target. -/
theorem untrappedReadMayRaiseElsewhere : Obligations.UntrappedReadMayRaiseElsewhere := by
  intro i k reg s e u ec hr hw hc hp ht hu he hl hn h64
  rw [exec_read_of_not_trapped hr hw hc hp ht, handOver_of_raises _ hu]
  obtain rfl | ⟨rfl, rfl, rfl⟩ := he
  · exact takeException_eq hl hn h64
  · exact takeException_eq hl hn h64

end Sys2Proof.Machine
end

section
/-! SUPPORT. The accessors: each row of their chain, and what they do where they trap. -/

namespace Sys2Proof.Machine

/-! ### The rows of the chain that trap (R146, R150) -/

/-- At EL1 with `EffNVx` matching `xx1` and not `1x1` the chain traps to EL2. -/
theorem accessorChain_of_nvTrap {s : State} (viaMem viaReg : State) (hf : s.cfg.haveFGT = true)
    (hel : s.pstate.el = .el1) (h1x1 : nvMatches1x1 s = false) (hxx1 : nvMatchesxx1 s = true) :
    accessorChain s viaMem viaReg = .raise (.trap .el2 0x18#6) := by
  simp [accessorChain, hf, hel, h1x1, hxx1]

/-- `EL3SDDUndefPriority` implies `EL3SDDUndef` (R26, D16). -/
theorem el3SDDUndef_of_priority {s : State} (h : el3SDDUndefPriority s = true) : el3SDDUndef s = true :=
  (Bool.and_eq_true_iff.1 h).2

/-- At EL2 with the gate closed and not `EL3SDDUndef` it traps to EL3. -/
theorem accessorChain_of_gateTrap {s : State} (viaMem viaReg : State) (hf : s.cfg.haveFGT = true)
    (hel : s.pstate.el = .el2) (h3 : s.cfg.haveEL3 = true) (hgate : s.ctx.fgten = false)
    (hsdd : el3SDDUndef s = false) : accessorChain s viaMem viaReg = .raise (.trap .el3 0x18#6) := by
  have hprio : el3SDDUndefPriority s = false :=
    Bool.eq_false_iff.2 fun h => Bool.eq_false_iff.1 hsdd (el3SDDUndef_of_priority h)
  simp [accessorChain, hf, hel, h3, fgtEn, hgate, hsdd, hprio]

/-- The rows of the chain, for any two transfers (R146, R150). -/
theorem accessorChain_rows (s viaMem viaReg : State) :
    (s.cfg.haveFGT = false → accessorChain s viaMem viaReg = .raise .undefined) ∧
    (s.cfg.haveFGT = true →
      (s.pstate.el = .el0 → accessorChain s viaMem viaReg = .raise .undefined) ∧
      (s.pstate.el = .el1 →
        (nvMatches1x1 s = true ∧ nvMemReady s → accessorChain s viaMem viaReg = finish viaMem) ∧
        (nvMatches1x1 s = false ∧ nvMatchesxx1 s = true →
          accessorChain s viaMem viaReg = .raise (.trap .el2 0x18#6)) ∧
        (nvMatchesxx1 s = false → accessorChain s viaMem viaReg = .raise .undefined)) ∧
      (s.pstate.el = .el2 →
        (s.cfg.haveEL3 = true ∧ s.ctx.fgten = false ∧ (el3SDDUndefPriority s = true ∨ el3SDDUndef s = true) →
          accessorChain s viaMem viaReg = .raise .undefined) ∧
        (s.cfg.haveEL3 = true ∧ s.ctx.fgten = false ∧ el3SDDUndef s = false →
          accessorChain s viaMem viaReg = .raise (.trap .el3 0x18#6)) ∧
        (gateOpen s → accessorChain s viaMem viaReg = finish viaReg)) ∧
      (s.pstate.el = .el3 → accessorChain s viaMem viaReg = finish viaReg)) := by
  refine ⟨fun hf => accessorChain_of_undefined _ _ (.inl hf), fun hf => ⟨fun hel => ?_, fun hel => ⟨?_, ?_, ?_⟩,
    fun hel => ⟨?_, ?_, fun gate => ?_⟩, fun hel => ?_⟩⟩
  · exact accessorChain_of_undefined _ _ (.inr (.inl hel))
  · rintro ⟨h1x1, ready⟩
    rw [accessorChain_of_redirected _ _ hf ⟨hel, h1x1⟩, nvAccess_of_ready _ ready]
  · rintro ⟨h1x1, hxx1⟩
    exact accessorChain_of_nvTrap _ _ hf hel h1x1 hxx1
  · intro hxx1
    exact accessorChain_of_undefined _ _ (.inr (.inr (.inl ⟨hel, hxx1⟩)))
  · rintro ⟨h3, hgate, hsdd⟩
    exact accessorChain_of_undefined _ _ (.inr (.inr (.inr ⟨hel, h3, hgate, hsdd.elim el3SDDUndef_of_priority id⟩)))
  · rintro ⟨h3, hgate, hsdd⟩
    exact accessorChain_of_gateTrap _ _ hf hel h3 hgate hsdd
  · exact accessorChain_of_reachesRegister _ _ hf (.inl ⟨hel, gate⟩)
  · exact accessorChain_of_reachesRegister _ _ hf (.inr hel)

/-- Settles O9: the rows of the chain, with the transfers of the `MRS`. -/
theorem mrsChain : Obligations.MrsChain := by
  intro s t
  obtain ⟨absent, rows⟩ := accessorChain_rows s (recordNV (writeX s t (nvRead s)) .read (nvRead s))
    (writeX s t (readHfgrtr s))
  refine ⟨absent, fun hf => ?_⟩
  obtain ⟨el0, el1, el2, el3⟩ := rows hf
  refine ⟨el0, fun hel => ?_, el2, el3⟩
  obtain ⟨viaMem, traps⟩ := el1 hel
  exact ⟨fun h => ⟨_, viaMem h⟩, traps⟩

/-- Settles O10: the rows of the chain, with the transfers of the `MSR`. -/
theorem msrChain : Obligations.MsrChain := fun s t =>
  accessorChain_rows s (recordNV (nvWrite s (readX s t)) .write (readX s t)) (writeHfgrtr s (readX s t))

/-! ### The trapped accessors (R157, R162) -/

/-- Both accessors run the chain as their own access. -/
theorem exec_accessor_access {i : Instr} {t : BitVec 5} (s : State) (hi : i = .mrsHfgrtrEl2 t ∨ i = .msrHfgrtrEl2 t) :
    ∃ viaMem viaReg, exec i s = runAccess s i.access (accessorChain s viaMem viaReg) := by
  obtain rfl | rfl := hi
  · exact ⟨_, _, rfl⟩
  · exact ⟨_, _, rfl⟩

/-- The ISS of an accessor has its point, its register and its direction (R162). -/
theorem accessISS_accessor {i : Instr} {t : BitVec 5} {isRead : Bool}
    (hi : i = .mrsHfgrtrEl2 t ∧ isRead = true ∨ i = .msrHfgrtrEl2 t ∧ isRead = false) :
    accessISS i.access = some (issOf hfgrtrPoint t isRead) := by
  obtain ⟨rfl, rfl⟩ | ⟨rfl, rfl⟩ := hi <;> rfl

/-- A trap with EC 0x18 to a higher level that is there enters the exception with the ISS of the access (R157, R162). -/
theorem raiseException_trap_of_accessISS {s : State} {a : Access} {u : Target} {iss : BitVec 25}
    (ha : accessISS a = some iss) (hl : levelImplemented s.cfg u.el = true) (hn : s.pstate.el.num ≤ u.el.num)
    (h1 : u ≠ .el1) : raiseException s a (.trap u 0x18#6) = .next (enterException s u 0x18#6 iss) := by
  have syndrome : syndromeISS s a 0x18#6 = iss := by rw [syndromeISS, if_pos rfl, ha, Option.getD_some]
  rw [raiseException, syndrome]
  exact takeException_eq hl hn fun h => absurd h h1

/-- `EffNVx` matches `xx1` only with EL2 (R15, R25). -/
theorem haveEL2_of_nvMatchesxx1 {s : State} (h : nvMatchesxx1 s = true) : s.cfg.haveEL2 = true := by
  by_contra h2
  simp [nvMatchesxx1, effNVx, h2] at h

/-- Settles O20: the chain traps, and the level the trap goes to is there and higher. -/
theorem trappedAccessorEntersTheException : Obligations.TrappedAccessorEntersTheException := by
  intro s t i isRead hi hw hf
  obtain ⟨viaMem, viaReg, hexec⟩ := exec_accessor_access s (hi.imp And.left And.left)
  have hiss := accessISS_accessor hi
  rw [hexec, runAccess_of_wf _ _ hw]
  refine ⟨fun hel h1x1 hxx1 => ?_, fun hel h3 hgate hsdd => ?_⟩
  · rw [accessorChain_of_nvTrap _ _ hf hel h1x1 hxx1]
    exact raiseException_trap_of_accessISS hiss (haveEL2_of_nvMatchesxx1 hxx1) (by rw [hel]; decide) (by decide)
  · rw [accessorChain_of_gateTrap _ _ hf hel h3 hgate hsdd]
    exact raiseException_trap_of_accessISS hiss h3 (by rw [hel]; decide) (by decide)

/-! ### The syndrome (R162) -/

/-- A concatenation has its two parts. -/
theorem append_parts_eq {m n : Nat} {a c : BitVec m} {b d : BitVec n} (h : a ++ b = c ++ d) : a = c ∧ b = d := by
  have low : b = d := by
    calc b = (a ++ b).extractLsb' 0 n := BitVec.extractLsb'_append_eq_right.symm
      _ = (c ++ d).extractLsb' 0 n := by rw [h]
      _ = d := BitVec.extractLsb'_append_eq_right
  subst low
  exact ⟨(BitVec.append_left_inj b).1 h, rfl⟩

/-- A point is its five coordinates, `op0 : op1 : CRn : CRm : op2` (R42). -/
theorem point_eq_coordinates (p : Point) :
    p.extractLsb' 14 2 ++ p.extractLsb' 11 3 ++ p.extractLsb' 7 4 ++ p.extractLsb' 3 4 ++ p.extractLsb' 0 3 = p := by
  have from11 : p.extractLsb' 14 2 ++ p.extractLsb' 11 3 = p.extractLsb' 11 5 :=
    BitVec.extractLsb'_append_extractLsb'_eq_extractLsb' rfl
  have from7 : p.extractLsb' 11 5 ++ p.extractLsb' 7 4 = p.extractLsb' 7 9 :=
    BitVec.extractLsb'_append_extractLsb'_eq_extractLsb' rfl
  have from3 : p.extractLsb' 7 9 ++ p.extractLsb' 3 4 = p.extractLsb' 3 13 :=
    BitVec.extractLsb'_append_extractLsb'_eq_extractLsb' rfl
  rw [from11, from7, from3]
  exact BitVec.extractLsb'_append_extractLsb'

/-- Settles O26: the ISS has the five coordinates, the register and the direction side by side. -/
theorem syndromeIdentifiesPointRegisterAndDirection : Obligations.SyndromeIdentifiesPointRegisterAndDirection := by
  intro p q t u d e h
  obtain ⟨h, direction⟩ := append_parts_eq h
  obtain ⟨h, crm⟩ := append_parts_eq h
  obtain ⟨h, register⟩ := append_parts_eq h
  obtain ⟨h, crn⟩ := append_parts_eq h
  obtain ⟨h, op1⟩ := append_parts_eq h
  obtain ⟨h, op2⟩ := append_parts_eq h
  obtain ⟨-, op0⟩ := append_parts_eq h
  refine ⟨?_, register, ?_⟩
  · rw [← point_eq_coordinates p, op0, op1, crn, crm, op2, point_eq_coordinates]
  · revert direction
    cases d <;> cases e <;> decide

end Sys2Proof.Machine
end

section
/-! SUPPORT. What an accessor reads back: the register's bits through the mask, and the eight bytes of the location. -/

namespace Sys2Proof.Machine

/-! ### The completed accessors -/

/-- What a completed accessor leaves as it was: all that decides which row of the chain the next one takes, and whether
it can be made. -/
structure SameSetting (s s' : State) : Prop where
  cfg : s'.cfg = s.cfg
  ctx : s'.ctx = s.ctx
  pstate : s'.pstate = s.pstate
  text : s'.text = s.text

section
variable {s s' : State}

theorem SameSetting.wf (h : SameSetting s s') (hw : s.Wf) : s'.Wf := by
  simpa only [State.Wf, nvAligned, h.cfg, h.ctx] using hw

theorem SameSetting.haveFGT (h : SameSetting s s') (hf : s.cfg.haveFGT = true) : s'.cfg.haveFGT = true := by
  rwa [h.cfg]

theorem SameSetting.reachesRegister (h : SameSetting s s') (hr : reachesRegister s) : reachesRegister s' := by
  simpa only [Machine.reachesRegister, gateOpen, h.cfg, h.ctx, h.pstate] using hr

theorem SameSetting.redirected (h : SameSetting s s') (hr : redirected s) : redirected s' := by
  simpa only [Machine.redirected, nvMatches1x1, effNVx, h.cfg, h.ctx, h.pstate] using hr

theorem SameSetting.nvMemReady (h : SameSetting s s') (hm : nvMemReady s) : nvMemReady s' := by
  simpa only [Machine.nvMemReady, nvOffText, outsideNVMem, nvAddr, h.ctx, h.text] using hm

end

section
variable {s : State} (t : BitVec 5) (hw : s.Wf) (hf : s.cfg.haveFGT = true) (room : pcHasRoom s)
include hw hf room

/-- The `MRS` that reaches the register, completed (R146). -/
theorem exec_mrs_register (hr : reachesRegister s) :
    exec (.mrsHfgrtrEl2 t) s = .next (advance (writeX s t (readHfgrtr s))) := by
  rw [exec_mrs_of_reachesRegister t hw hf hr, deliver_finish _ (by simpa using room)]

/-- The `MSR` that reaches the register, completed (R150). -/
theorem exec_msr_register (hr : reachesRegister s) :
    exec (.msrHfgrtrEl2 t) s = .next (advance (writeHfgrtr s (readX s t))) := by
  rw [exec_msr_of_reachesRegister t hw hf hr, deliver_finish _ (by simpa using room)]

/-- The redirected `MRS`, completed (R146). -/
theorem exec_mrs_memory (hr : redirected s) (hm : nvMemReady s) :
    exec (.mrsHfgrtrEl2 t) s = .next (advance (recordNV (writeX s t (nvRead s)) .read (nvRead s))) := by
  rw [exec_mrs_of_redirected t hw hf hr hm, deliver_finish _ (by simpa using room)]

/-- The redirected `MSR`, completed (R150). -/
theorem exec_msr_memory (hr : redirected s) (hm : nvMemReady s) :
    exec (.msrHfgrtrEl2 t) s = .next (advance (recordNV (nvWrite s (readX s t)) .write (readX s t))) := by
  rw [exec_msr_of_redirected t hw hf hr hm, deliver_finish _ (by simpa using room)]

end

/-- Settles O12: the completed `MRS`, and the same with the register that discards its value. -/
theorem mrsCompletesWithTheRegister : Obligations.MrsCompletesWithTheRegister := by
  intro s t hw hf hr room
  refine ⟨exec_mrs_register t hw hf room hr, ?_⟩
  rw [exec_mrs_register 31#5 hw hf room hr, writeX_xzr]

/-! ### The bits of the register (R20, R152) -/

/-- The mask keeps the bit of a field whose feature is implemented (R20, R21). -/
theorem maskRES0_getLsbD_bitOf {c : Config} {f : Field} (v : Word) (hb : c.BitposWf) (h2 : c.haveEL2 = true)
    (hf : c.featOf f = true) : (c.maskRES0 v).getLsbD (c.bitOf f) = v.getLsbD (c.bitOf f) := by
  have named : c.implMask.getLsbD (c.bitOf f) = true := by
    rw [implMask_getLsbD c (bitOf_lt hb f), h2, Bool.true_and, List.any_eq_true]
    exact ⟨f, mem_allFields f, by rw [hf, beq_self_eq_true, Bool.and_self]⟩
  cases hs : c.res0Stored with
  | true => rw [maskRES0_of_stored hs]
  | false => rw [maskRES0_of_hardwired hs, BitVec.getLsbD_and, named, Bool.and_true]

/-- Where RES0 bits are hardwired the mask clears a bit of no implemented field (R15, R20). -/
theorem maskRES0_getLsbD_res0 {c : Config} {b : Nat} (v : Word) (hs : c.res0Stored = false)
    (h : ∀ f, c.bitOf f = b → c.haveEL2 = false ∨ c.featOf f = false) : (c.maskRES0 v).getLsbD b = false := by
  rw [maskRES0_of_hardwired hs, BitVec.getLsbD_and, Bool.and_eq_false_iff]
  by_cases hb : b < 64
  · right
    rw [implMask_getLsbD c hb, Bool.eq_false_iff, Ne, Bool.and_eq_true, List.any_eq_true]
    rintro ⟨h2, f, -, hf⟩
    obtain ⟨feat, bit⟩ := Bool.and_eq_true_iff.1 hf
    obtain none2 | absent := h f (beq_iff_eq.1 bit)
    · exact Bool.false_ne_true (none2.symm.trans h2)
    · exact Bool.false_ne_true (absent.symm.trans feat)
  · exact .inl (BitVec.getLsbD_of_ge v b (Nat.le_of_not_lt hb))

/-- Settles O13: the register holds the source through the mask. -/
theorem msrCompletesInTheRegister : Obligations.MsrCompletesInTheRegister := by
  intro s t hw hf hr room
  refine ⟨s.cfg.maskRES0 (readX s t), exec_msr_register t hw hf room hr, fun f h2 feat => ?_, fun hs => ?_,
    fun hs b => maskRES0_getLsbD_res0 _ hs, fun ht => ?_⟩
  · obtain ⟨⟨hbits, -⟩, -⟩ := hw
    exact maskRES0_getLsbD_bitOf _ hbits h2 feat
  · exact maskRES0_of_stored hs _
  · rw [ht, readX_xzr]

/-! ### Writing and reading back -/

/-- With room for more than one instruction, the next one has room (R28). -/
theorem toNat_add_four {a : Word} (h : a.toNat + 4 < 2 ^ 64) : (a + 4#64).toNat = a.toNat + 4 := by
  rw [BitVec.toNat_add, BitVec.toNat_ofNat]
  omega

/-- A value is known by its eight bytes (R47). -/
theorem eq_of_byteOf_eq {big : Bool} {v w : Word} (h : ∀ i, i < 8 → byteOf big v i = byteOf big w i) : v = w := by
  have bytes : ∀ i, i < 8 → v.extractLsb' (8 * i) 8 = w.extractLsb' (8 * i) 8 := by
    intro i hi
    cases big with
    | false => exact h i hi
    | true =>
      have fromTop : 56 - 8 * (7 - i) = 8 * i := by omega
      have top := h (7 - i) (by omega)
      rwa [byteOf_eq_extractLsb', byteOf_eq_extractLsb', if_pos rfl, fromTop] at top
  refine BitVec.eq_of_getLsbD_eq fun j hj => ?_
  have bit : 8 * (j / 8) + j % 8 = j := Nat.div_add_mod j 8
  have inByte : j % 8 < 8 := Nat.mod_lt j (by decide)
  have same := congrArg (·.getLsbD (j % 8)) (bytes (j / 8) (by omega))
  simpa [BitVec.getLsbD_extractLsb', inByte, bit] using same

/-- What the redirected store left is what the location reads as (R45, R46). -/
theorem nvRead_nvWrite (s : State) (v : Word) : nvRead (nvWrite s v) = v := by
  refine eq_of_byteOf_eq (big := s.ctx.nvBigEndian) fun i hi => ?_
  calc byteOf s.ctx.nvBigEndian (nvRead (nvWrite s v)) i
      = memRead (nvWrite s v).mem ((nvAddr s).toNat + i) := byteOf_memRead64 _ _ _ hi
    _ = byteOf s.ctx.nvBigEndian v i := memRead_nvWrite_inside s v hi

section
variable {s : State} (hw : s.Wf) (hf : s.cfg.haveFGT = true) (room : pcHasRoom s)
include hw hf room

/-- After the `MSR` the register holds the source through the mask, and the chain takes the same row. -/
theorem exists_msr_register (a : BitVec 5) (hr : reachesRegister s) :
    ∃ s', exec (.msrHfgrtrEl2 a) s = .next s' ∧ SameSetting s s' ∧ s'.pc.toNat = s.pc.toNat + 4 ∧
      s'.hfgrtr = s.cfg.maskRES0 (readX s a) :=
  ⟨_, exec_msr_register a hw hf room hr, ⟨rfl, rfl, rfl, rfl⟩, toNat_add_four room, rfl⟩

/-- After the `MRS` its destination holds the register through the mask, and the chain takes the same row. -/
theorem exists_mrs_register {b : BitVec 5} (hb : b ≠ 31#5) (hr : reachesRegister s) :
    ∃ s', exec (.mrsHfgrtrEl2 b) s = .next s' ∧ SameSetting s s' ∧ s'.pc.toNat = s.pc.toNat + 4 ∧
      s'.hfgrtr = s.hfgrtr ∧ readX s' b = s.cfg.maskRES0 s.hfgrtr := by
  refine ⟨_, exec_mrs_register b hw hf room hr, ⟨by simp, by simp, by simp, by simp⟩, ?_, by simp, ?_⟩
  · rw [advance_pc, writeX_pc, toNat_add_four room]
  · rw [readX_advance, readX_writeX_same s _ hb]
    rfl

/-- After the redirected `MSR` the location reads as the source, the register and its pending value stay, and the chain
takes the same row. -/
theorem exists_msr_memory (a : BitVec 5) (hr : redirected s) (hm : nvMemReady s) :
    ∃ s', exec (.msrHfgrtrEl2 a) s = .next s' ∧ SameSetting s s' ∧ s'.pc.toNat = s.pc.toNat + 4 ∧
      s'.hfgrtr = s.hfgrtr ∧ s'.pending = s.pending ∧ nvRead s' = readX s a :=
  ⟨_, exec_msr_memory a hw hf room hr hm, ⟨rfl, rfl, rfl, rfl⟩, toNat_add_four room, rfl, rfl,
    nvRead_nvWrite s (readX s a)⟩

/-- After the redirected `MRS` its destination holds what the location reads as, and the register and its pending value
stay. -/
theorem exists_mrs_memory {b : BitVec 5} (hb : b ≠ 31#5) (hr : redirected s) (hm : nvMemReady s) :
    ∃ s', exec (.mrsHfgrtrEl2 b) s = .next s' ∧ SameSetting s s' ∧
      s'.hfgrtr = s.hfgrtr ∧ s'.pending = s.pending ∧ readX s' b = nvRead s := by
  refine ⟨_, exec_mrs_memory b hw hf room hr hm, ⟨by simp, by simp, by simp, by simp⟩, by simp, by simp, ?_⟩
  exact readX_writeX_same s _ hb

end

/-- Settles O16: each `MRS` reads the register through the mask, which changes a masked value no more. -/
theorem registerReadsBackWhatWasWritten : Obligations.RegisterReadsBackWhatWasWritten := by
  intro s a b hw hf h2 hr room hb
  obtain ⟨s1, exec1, same1, pc1, reg1⟩ := exists_msr_register hw hf (by omega) a hr
  obtain ⟨s2, exec2, same2, pc2, reg2, read2⟩ :=
    exists_mrs_register (same1.wf hw) (same1.haveFGT hf) (by omega) hb (same1.reachesRegister hr)
  obtain ⟨s3, exec3, -, -, -, read3⟩ :=
    exists_mrs_register (same2.wf (same1.wf hw)) (same2.haveFGT (same1.haveFGT hf)) (by omega) hb
      (same2.reachesRegister (same1.reachesRegister hr))
  have written : readX s2 b = s.cfg.maskRES0 (readX s a) := by rw [read2, reg1, same1.cfg, maskRES0_idem]
  refine ⟨s1, s2, s3, exec1, exec2, exec3, ?_, fun f feat => ?_, fun hs => ?_⟩
  · rw [read3, read2, reg2, same2.cfg]
  · obtain ⟨⟨hbits, -⟩, -⟩ := hw
    rw [written, maskRES0_getLsbD_bitOf _ hbits h2 feat]
  · rw [written, maskRES0_of_stored hs]

/-- Settles O17: the `MRS` reads the location as the `MSR` left it, and neither sees the register. -/
theorem redirectedReadsBackWhatWasStored : Obligations.RedirectedReadsBackWhatWasStored := by
  intro s a b hw hf hr hm room hb
  obtain ⟨s1, exec1, same1, pc1, reg1, pend1, stored⟩ := exists_msr_memory hw hf (by omega) a hr hm
  obtain ⟨s2, exec2, same2, reg2, pend2, read2⟩ :=
    exists_mrs_memory (same1.wf hw) (same1.haveFGT hf) (by omega) hb (same1.redirected hr) (same1.nvMemReady hm)
  have reg : s2.hfgrtr = s.hfgrtr := reg2.trans reg1
  have pend : s2.pending = s.pending := pend2.trans pend1
  have cfg : s2.cfg = s.cfg := same2.cfg.trans same1.cfg
  have ctx : s2.ctx = s.ctx := same2.ctx.trans same1.ctx
  refine ⟨s1, s2, exec1, exec2, read2.trans stored, reg, pend, trapped_congr cfg ctx ?_⟩
  rw [governing, governing, reg, pend, ctx]

end Sys2Proof.Machine
end

section
/-! SUPPORT. What an accessor leaves unchanged, and what its outcome does not depend on. -/

namespace Sys2Proof.Machine

/-! ### The frame of an accessor -/

/-- An instruction leaves the context (R6). -/
theorem exec_keeps_ctx {i : Instr} {s s' : State} (h : exec i s = .next s') : s'.ctx = s.ctx := by
  rcases accessor_or_read i with ⟨t, hacc⟩ | ⟨k, reg, hread⟩
  · obtain ⟨u, ec, iss, -, -, rfl⟩ | ⟨-, ⟨-, -, viaMem⟩ | ⟨-, viaReg⟩⟩ := accessor_next hacc h
    · simp
    · obtain ⟨-, rfl⟩ | ⟨-, rfl⟩ := viaMem <;> simp
    · obtain ⟨-, rfl⟩ | ⟨-, rfl⟩ := viaReg <;> simp
  · obtain ⟨-, -, -, -, hctx, -⟩ := read_keeps hread h
    exact hctx

/-- An accessor that completes leaves `PSTATE`, the exception registers, the count of free values and, but for the
`MSR` that reaches the register, the pending value; any other enters an exception (R33, R150, R157). -/
theorem accessor_completes_or_enters {i : Instr} {t : BitVec 5} {s s' : State}
    (hi : i = .mrsHfgrtrEl2 t ∨ i = .msrHfgrtrEl2 t) (h : exec i s = .next s') :
    (s'.pstate = s.pstate ∧ s'.exc1 = s.exc1 ∧ s'.exc2 = s.exc2 ∧ s'.exc3 = s.exc3 ∧ s'.freeCount = s.freeCount ∧
      (¬ (i = .msrHfgrtrEl2 t ∧ reachesRegister s) → s'.pending = s.pending)) ∨
    ∃ u ec iss, s' = enterException s u ec iss := by
  obtain ⟨u, ec, iss, -, -, he⟩ | ⟨-, ⟨-, -, viaMem⟩ | ⟨hr, viaReg⟩⟩ := accessor_next hi h
  · exact .inr ⟨u, ec, iss, he⟩
  · left
    obtain ⟨-, rfl⟩ | ⟨-, rfl⟩ := viaMem <;> simp
  · left
    obtain ⟨-, rfl⟩ | ⟨hmsr, rfl⟩ := viaReg
    · simp
    · exact ⟨rfl, rfl, rfl, rfl, rfl, fun other => absurd ⟨hmsr, hr⟩ other⟩

/-- Settles O19: by what an instruction does to each part of the state. -/
theorem accessorFrame : Obligations.AccessorFrame := by
  intro s s' t i hi h
  obtain ⟨hcfg, htext, hrest⟩ := exec_keeps_cfg_text_rest h
  refine ⟨fun n => exec_keeps_readX h, fun other => ?_, fun a other => ?_, fun notRedirected => ?_, hcfg,
    exec_keeps_ctx h, htext, hrest, accessor_completes_or_enters hi h⟩
  · obtain same | ⟨hr, -, u, rfl, -⟩ := exec_hfgrtr h
    · exact same
    · obtain e | e := hi
      · cases e
      · exact absurd ⟨e, hr⟩ other
  · obtain ⟨same, -⟩ | ⟨hr, u, ⟨-, rfl⟩ | ⟨rfl, rfl⟩⟩ := exec_mem_events h
    · rw [same]
    · simp
    · obtain e | e := hi
      · cases e
      · refine memRead_nvWrite_outside _ ?_
        by_contra inside
        exact other ⟨e, hr, inside⟩
  · obtain ⟨-, same⟩ | ⟨hr, -⟩ := exec_mem_events h
    · exact same
    · exact absurd hr notRedirected

/-! ### An accessor at EL0 and EL1 under a changed register (R155) -/

theorem nvWrite_withHfgrtr (v : Word) (s : State) (w : Word) :
    nvWrite (withHfgrtr v s) w = withHfgrtr v (nvWrite s w) := rfl

theorem recordNV_withHfgrtr (v : Word) (s : State) (d : Direction) (w : Word) :
    recordNV (withHfgrtr v s) d w = withHfgrtr v (recordNV s d w) := rfl

theorem nvAccess_withHfgrtr (v : Word) (s done : State) :
    nvAccess (withHfgrtr v s) (withHfgrtr v done) = mapResult (withHfgrtr v) (nvAccess s done) := by
  unfold nvAccess
  rw [finish_withHfgrtr, apply_ite (mapResult _), apply_ite (mapResult _)]
  rfl

/-- Below EL2 the chain has no row that transfers with the register. -/
theorem accessorChain_withHfgrtr (v : Word) {s : State} (viaMem viaReg viaReg' : State)
    (hel : s.pstate.el = .el0 ∨ s.pstate.el = .el1) :
    accessorChain (withHfgrtr v s) (withHfgrtr v viaMem) viaReg' =
      mapResult (withHfgrtr v) (accessorChain s viaMem viaReg) := by
  have level : (withHfgrtr v s).pstate.el = s.pstate.el := rfl
  unfold accessorChain
  rw [level, nvAccess_withHfgrtr]
  obtain h | h := hel <;> rw [h] <;> simp only [apply_ite (mapResult _)] <;> rfl

theorem mrsHfgrtrResult_withHfgrtr (v : Word) {s : State} (t : BitVec 5)
    (hel : s.pstate.el = .el0 ∨ s.pstate.el = .el1) :
    mrsHfgrtrResult (withHfgrtr v s) t = mapResult (withHfgrtr v) (mrsHfgrtrResult s t) := by
  unfold mrsHfgrtrResult
  rw [writeX_withHfgrtr, recordNV_withHfgrtr]
  exact accessorChain_withHfgrtr v _ _ _ hel

theorem msrHfgrtrResult_withHfgrtr (v : Word) {s : State} (t : BitVec 5)
    (hel : s.pstate.el = .el0 ∨ s.pstate.el = .el1) :
    msrHfgrtrResult (withHfgrtr v s) t = mapResult (withHfgrtr v) (msrHfgrtrResult s t) := by
  unfold msrHfgrtrResult
  rw [nvWrite_withHfgrtr, recordNV_withHfgrtr]
  exact accessorChain_withHfgrtr v _ _ _ hel

/-- Settles O11: below EL2 neither chain has a row that looks at the register or writes it. -/
theorem accessorBelowEL2CannotSeeTheRegister : Obligations.AccessorBelowEL2CannotSeeTheRegister := by
  intro s t v i hi hel
  have notReached : ¬ reachesRegister s := by
    obtain e | e := hel <;> simp [reachesRegister, e]
  refine ⟨?_, fun s' h => (exec_hfgrtr h).resolve_right fun reached => notReached reached.1⟩
  change exec i (withHfgrtr v s) = mapNext (withHfgrtr v) (exec i s)
  obtain rfl | rfl := hi
  · exact (congrArg (runAccess _ _) (mrsHfgrtrResult_withHfgrtr v t hel)).trans (runAccess_withHfgrtr v s (.mrsH t) _)
  · exact (congrArg (runAccess _ _) (msrHfgrtrResult_withHfgrtr v t hel)).trans (runAccess_withHfgrtr v s (.msrH t) _)

/-! ### What the outcome of an accessor does not depend on (R145, R155) -/

/-- A state with another register, pending value, memory and `EL2Enabled`. -/
def withUnseen (v : Word) (p : Option Word) (m : List Host.Cell) (b : Bool) (s : State) : State :=
  { s with hfgrtr := v, pending := p, mem := m, ctx := { s.ctx with el2Enabled := b } }

/-- Whether an instruction completes is seen from its pc alone (R28). -/
theorem outcomeKind_finish (any : State) {u u' : State} (h : u'.pc = u.pc) :
    outcomeKind any (finish u') = outcomeKind any (finish u) := by
  unfold finish
  rw [h, apply_ite (outcomeKind any), apply_ite (outcomeKind any)]
  rfl

/-- The redirected access looks at the text, the location and the memory oracle, and at none of the four. -/
theorem outcomeKind_nvAccess (any : State) (v : Word) (p : Option Word) (m : List Host.Cell) (b : Bool) (s : State)
    {done done' : State} (h : done'.pc = done.pc) :
    outcomeKind any (nvAccess (withUnseen v p m b s) done') = outcomeKind any (nvAccess s done) := by
  unfold nvAccess
  simp only [apply_ite (outcomeKind any), outcomeKind_finish any h]
  rfl

/-- The rows of the chain look at the configuration, the level and the rest of the context. -/
theorem outcomeKind_accessorChain (any : State) (v : Word) (p : Option Word) (m : List Host.Cell) (b : Bool) (s : State)
    {viaMem viaMem' viaReg viaReg' : State} (hmem : viaMem'.pc = viaMem.pc) (hreg : viaReg'.pc = viaReg.pc) :
    outcomeKind any (accessorChain (withUnseen v p m b s) viaMem' viaReg') =
      outcomeKind any (accessorChain s viaMem viaReg) := by
  have level : (withUnseen v p m b s).pstate.el = s.pstate.el := rfl
  unfold accessorChain
  rw [level]
  cases s.pstate.el <;>
    simp only [apply_ite (outcomeKind any), outcomeKind_nvAccess any v p m b s hmem, outcomeKind_finish any hreg] <;>
    rfl

/-- Settles O55: the transfers differ, but not in the pc. -/
theorem accessorOutcomeIgnoresRegisterMemoryAndEL2Enabled :
    Obligations.AccessorOutcomeIgnoresRegisterMemoryAndEL2Enabled := by
  intro s any t v p m b
  exact ⟨outcomeKind_accessorChain any v p m b s (by simp) (by simp),
    outcomeKind_accessorChain any v p m b s (by simp) (by simp)⟩

end Sys2Proof.Machine
end

section
/-! SUPPORT. Exceptions: where an entry is refused, what it saves and sets, and what a return from it restores. -/

namespace Sys2Proof.Machine

/-! ### Where an entry is refused (R157, R163) -/

/-- No machine takes an exception to a level that is absent or lower than the current one (R172, log 26). -/
theorem takeException_of_absent_or_lower {s : State} {u : Target} (ec : BitVec 6) (iss : BitVec 25)
    (h : levelImplemented s.cfg u.el = false ∨ u.el.num < s.pstate.el.num) :
    takeException s u ec iss = .refused .illFormedContext := if_pos h

/-- EL1 is always there (R172), so that from a level no higher its execution state decides (R163, log 26). -/
theorem takeException_el1_of_aarch32 {s : State} (ec : BitVec 6) (iss : BitVec 25)
    (hn : s.pstate.el.num ≤ Target.el1.el.num) (ha : s.ctx.el1A64 = false) :
    takeException s .el1 ec iss = .refused .aarch32Entry := by
  have legal : ¬ (levelImplemented s.cfg Target.el1.el = false ∨ Target.el1.el.num < s.pstate.el.num) := by
    rintro (absent | lower)
    · cases absent
    · exact absurd lower (Nat.not_lt.2 hn)
  rw [takeException, if_neg legal, if_pos ⟨rfl, ha⟩]

/-- A level that exceptions are taken to takes its own UNDEFINED (R160). -/
theorem undefinedTarget_of_el_eq {s : State} {u : Target} (h : u.el = s.pstate.el) : undefinedTarget s = u := by
  rw [undefinedTarget, ← h]
  cases u <;> rfl

/-- An UNDEFINED accessor raises UNDEFINED as the exception of EC 0x00 (R146, R150, R160). -/
theorem exec_accessor_of_undefined {i : Instr} {t : BitVec 5} {s : State}
    (hi : i = .mrsHfgrtrEl2 t ∨ i = .msrHfgrtrEl2 t) (hw : s.Wf)
    (h : s.cfg.haveFGT = false ∨ s.pstate.el = .el0 ∨ (s.pstate.el = .el1 ∧ nvMatchesxx1 s = false) ∨
      (s.pstate.el = .el2 ∧ s.cfg.haveEL3 = true ∧ s.ctx.fgten = false ∧ el3SDDUndef s = true)) :
    ∃ iss, exec i s = takeException s (undefinedTarget s) 0x00#6 iss := by
  obtain ⟨a, viaMem, viaReg, -, -, hexec⟩ := exec_accessor s hi
  refine ⟨syndromeISS s a 0x00#6, ?_⟩
  rw [hexec, runAccess_of_wf _ _ hw, accessorChain_of_undefined _ _ h]
  rfl

/-- Settles O57: each refusal is one branch of taking an exception. -/
theorem whereAnEntryIsRefused : Obligations.WhereAnEntryIsRefused := by
  refine ⟨fun s u ec iss => ⟨takeException_of_absent_or_lower ec iss, fun hl hn => ⟨?_, fun h => ?_⟩⟩,
    fun s t i hi hw hel ht ha => ?_, fun i k reg s u ec hr hw hc hp h => ?_⟩
  · rintro ⟨rfl, ha⟩
    exact takeException_el1_of_aarch32 ec iss hn ha
  · exact takeException_eq hl hn fun e => h.resolve_left (not_not_intro e)
  · obtain ⟨iss, hexec⟩ := exec_accessor_of_undefined hi hw (.inr (.inl hel))
    rw [hexec, undefinedTarget_of_el0 hel, if_neg (Bool.eq_false_iff.1 ht)]
    exact takeException_el1_of_aarch32 _ _ (by rw [hel]; decide) ha
  · rw [exec_read_of_higherPriority hr hw hc hp]
    exact takeException_of_absent_or_lower ec _ h

/-! ### The syndrome register (R162) -/

/-- The EC is above 25 bits of ISS and the bit of IL. -/
theorem esrValue_ec (high : BitVec 32) (ec : BitVec 6) (iss : BitVec 25) :
    (esrValue high ec iss).extractLsb' 26 6 = ec := by
  rw [esrValue, BitVec.extractLsb'_append_eq_of_le (by decide), BitVec.extractLsb'_append_eq_of_le (by decide)]
  exact BitVec.extractLsb'_append_eq_right

/-- IL, the bit below the EC, is 1 (R162). -/
theorem esrValue_il (high : BitVec 32) (ec : BitVec 6) (iss : BitVec 25) :
    (esrValue high ec iss).getLsbD 25 = true := by
  rw [esrValue, BitVec.getLsbD_append, if_neg (by decide), BitVec.getLsbD_append, if_pos (by decide)]
  rfl

theorem esrValue_iss (high : BitVec 32) (ec : BitVec 6) (iss : BitVec 25) :
    (esrValue high ec iss).extractLsb' 0 25 = iss := BitVec.extractLsb'_append_eq_right

theorem esrValue_high (high : BitVec 32) (ec : BitVec 6) (iss : BitVec 25) :
    (esrValue high ec iss).extractLsb' 32 32 = high := by
  rw [esrValue, BitVec.extractLsb'_append_eq_of_le (by decide), BitVec.extractLsb'_append_eq_of_le (by decide),
    BitVec.extractLsb'_append_eq_of_le (by decide)]
  exact BitVec.extractLsb'_eq_self

/-- With EC 0x18 nothing stands above the EC (R162). -/
theorem esrHigh_of_0x18 (s : State) : esrHigh s 0x18#6 = 0#32 := if_pos rfl

/-- Settles O21: the trap is entered at EL2 with the syndrome of the access, whose parts are all known. -/
theorem syndromeOfTheWorkedExample : Obligations.SyndromeOfTheWorkedExample := by
  intro s s' hf hel h1x1 hxx1 h
  obtain ⟨entered, -⟩ := trappedAccessorEntersTheException s 1#5 _ true (.inl ⟨rfl, rfl⟩) (exec_wf h) hf
  obtain rfl := Host.Outcome.next.inj ((entered hel h1x1 hxx1).symm.trans h)
  calc (enterException s .el2 0x18#6 (issOf hfgrtrPoint 1#5 true)).exc2.esr
      = esrValue (esrHigh s 0x18#6) 0x18#6 (issOf hfgrtrPoint 1#5 true) :=
        congrArg ExcRegs.esr (excRegs_enterException s .el2 _ _)
    _ = esrValue 0#32 0x18#6 (issOf hfgrtrPoint 1#5 true) := by rw [esrHigh_of_0x18]
    _ = 0x62390423#64 := by decide

/-! ### The vector (R163) -/

/-- From a lower level the execution state decides the offset (R163). -/
theorem vectorOffset_of_lower {s : State} {u : Target} (h : s.pstate.el.num < u.el.num) :
    vectorOffset s u = if s.pstate.iset = .a64 then 0x400#64 else 0x600#64 := if_pos h

/-- At the current level SP does (log 2). -/
theorem vectorOffset_of_current {s : State} {u : Target} (h : u.el = s.pstate.el) :
    vectorOffset s u = if s.pstate.sp then 0x200#64 else 0x000#64 := if_neg (by simp [h])

/-- Settles O24: by what an entry does to each part of the state. -/
theorem entryEffect : Obligations.EntryEffect := by
  intro s s' u ec iss h
  obtain ⟨-, -, -, rfl⟩ := takeException_next h
  rw [excRegs_enterException]
  refine ⟨rfl, rfl, esrValue_ec _ _ _, esrValue_il _ _ _, esrValue_iss _ _ _, ?_, rfl,
    fun o => excRegs_enterException_of_ne s ec iss, enterException_pstate s u ec iss, fun lower => ?_, ?_⟩
  · rintro rfl
    rw [esrValue_high, esrHigh_of_0x18]
  · rw [enterException_pc, vectorOffset_of_lower lower]
  · simp

/-- An exception taken to the current level starts where SP says (log 2). -/
theorem takeException_pc_of_current {s s' : State} {u : Target} {ec : BitVec 6} {iss : BitVec 25}
    (h : takeException s u ec iss = .next s') (hu : u.el = s.pstate.el) :
    s'.pc = (excRegs s u).vbar + (if s.pstate.sp then 0x200#64 else 0x000#64) := by
  obtain ⟨-, -, -, rfl⟩ := takeException_next h
  rw [enterException_pc, vectorOffset_of_current hu]

/-- Settles O56: without FEAT_FGT an accessor is UNDEFINED, which above EL0 is taken to the current level. -/
theorem entryToTheCurrentLevel : Obligations.EntryToTheCurrentLevel := by
  refine ⟨fun s s' u ec iss h hu => takeException_pc_of_current h hu, fun s s' t i u hi hf hu h => ?_⟩
  obtain ⟨iss, hexec⟩ := exec_accessor_of_undefined hi (exec_wf h) (.inl hf)
  rw [undefinedTarget_of_el_eq hu] at hexec
  exact takeException_pc_of_current (hexec.symm.trans h) hu

/-! ### Returning from an exception (R164) -/

/-- From the level `u` a return to an implemented level that is not higher restores what is saved there. -/
theorem exceptionReturn_eq {s : State} {u : Target} (hu : u.el = s.pstate.el)
    (hl : levelImplemented s.cfg (excRegs s u).spsr.el = true) (hn : (excRegs s u).spsr.el.num ≤ s.pstate.el.num) :
    exceptionReturn s =
      some { s with pc := (excRegs s u).elr, pstate := (excRegs s u).spsr, pending := none } := by
  simp only [exceptionReturn, ← hu, returnSource_el]
  exact if_pos ⟨hl, hu ▸ hn⟩

/-- Settles O25: the entry saves `PSTATE` at the level it goes to, which is no lower than the one interrupted. -/
theorem returnUndoesEntry : Obligations.ReturnUndoesEntry := by
  intro s s' u ec iss hl h
  obtain ⟨-, notLower, -, rfl⟩ := takeException_next h
  refine ⟨⟨_, exceptionReturn_eq (u := u) (by simp) (by simpa using hl) (by simpa using notLower), by simp⟩,
    ⟨_, exceptionReturn_eq (u := u) (by simp) (by simpa using hl) (by simpa using notLower), by simp⟩⟩

/-! ### The level (R172) -/

/-- An instruction that enters no exception leaves `PSTATE` (R157). -/
theorem exec_keeps_pstate_or_enters {i : Instr} {s s' : State} (h : exec i s = .next s') :
    s'.pstate = s.pstate ∨ ∃ u ec iss, s.pstate.el.num ≤ u.el.num ∧ s' = enterException s u ec iss := by
  rcases accessor_or_read i with ⟨t, hacc⟩ | ⟨k, reg, hread⟩
  · obtain ⟨u, ec, iss, -, hn, he⟩ | ⟨-, ⟨-, -, viaMem⟩ | ⟨-, viaReg⟩⟩ := accessor_next hacc h
    · exact .inr ⟨u, ec, iss, hn, he⟩
    · left
      obtain ⟨-, rfl⟩ | ⟨-, rfl⟩ := viaMem <;> simp
    · left
      obtain ⟨-, rfl⟩ | ⟨-, rfl⟩ := viaReg <;> simp
  · obtain ⟨u, ec, iss, -, hn, he⟩ | rfl | rfl := read_next hread h
    · exact .inr ⟨u, ec, iss, hn, he⟩
    · exact .inl (by simp)
    · exact .inl rfl

/-- Settles O49: an instruction leaves the level or enters an exception at one that is not lower, and of the inputs only
the three named change the level. -/
theorem noInstructionLowersTheLevel : Obligations.NoInstructionLowersTheLevel := by
  intro s s' h
  obtain ⟨e, hin, he⟩ | ⟨i, hat, hx⟩ := step_next h
  · obtain ⟨-, -, -, -, -, -, -, -, level⟩ := applyRest_next he
    obtain ⟨same, -⟩ | ⟨rfl, -, notHigher, -⟩ | ⟨el, m, pc, rfl, -⟩ | ⟨d, rfl, -⟩ := level
    · simp [same]
    · exact ⟨fun _ => .inl hin, fun lt => absurd lt (Nat.not_lt.2 notHigher)⟩
    · exact ⟨fun _ => .inr (.inl ⟨el, m, pc, hin⟩), fun _ => .inr (.inl ⟨el, m, pc, hin⟩)⟩
    · exact ⟨fun _ => .inr (.inr ⟨d, hin⟩), fun _ => .inr (.inr ⟨d, hin⟩)⟩
  · obtain same | ⟨u, ec, iss, notLower, rfl⟩ := exec_keeps_pstate_or_enters hx
    · simp [same]
    · refine ⟨fun lt => absurd lt ?_, fun _ => .inl ⟨i, u, ec, iss, hat, rfl⟩⟩
      rw [enterException_pstate]
      exact Nat.not_lt.2 notLower

end Sys2Proof.Machine
end

section
/-! SUPPORT. The state after reset, and the value `NOTRAP` once the writing level is left. -/

namespace Sys2Proof.Machine

/-! ### The state after reset (R187, R188) -/

/-- No cells are in rising order. -/
theorem cellsRising_nil : cellsRising [] := ⟨.nil, fun _ h => absurd h List.not_mem_nil⟩

/-- Memory that nothing has written is in its canonical form (log 20). -/
theorem memory_wf_nil : Memory.wf [] := ⟨cellsRising_nil, fun _ h => absurd h List.not_mem_nil⟩

/-- Settles O45: memory and text are empty, the level is the highest implemented one, nothing is pending, the draw is
masked, and `NVBase` is 0. -/
theorem invariantHoldsAfterReset : Obligations.InvariantHoldsAfterReset := by
  intro c draw
  have level : levelImplemented c (resetPState c).el = true := levelImplemented_highestEL c
  have notPending : (none : Option Word).isSome = true → (resetPState c).el = .el2 ∨ (resetPState c).el = .el3 :=
    fun h => absurd h Bool.false_ne_true
  have res0 : c.res0Stored = false → c.maskRES0 draw &&& ~~~c.implMask = 0#64 := fun h => maskRES0_res0 h draw
  have base : resetContext.nvBase.toNat % 8 = 0 := rfl
  exact ⟨memory_wf_nil, cellsRising_nil, level, notPending, res0, base, fun _ h => absurd h List.not_mem_nil⟩

/-! ### Leaving the level that wrote the register (R33, R193) -/

/-- An exception return is a context synchronization (R164, R193). -/
theorem exceptionReturn_pending {s s' : State} (h : exceptionReturn s = some s') : s'.pending = none := by
  unfold exceptionReturn at h
  split at h
  · cases h
  · dsimp only at h
    split_ifs at h
    cases h
    rfl

/-- A change of level by the rest of the machine leaves no write pending (R193). -/
theorem levelChange_pending {s s' : State} {el : EL} {m : ISet} {pc : Word} (h : levelChange s el m pc = .next s') :
    s'.pending = none := by
  unfold levelChange at h
  split_ifs at h
  cases h
  rfl

/-- A return or a change of level that completes keeps the configuration and the register, and leaves no write
pending (R33, R193). -/
theorem applyRest_next_of_return_or_levelChange {s s' : State} {e : RestEvent}
    (he : e = .exceptionReturn ∨ ∃ el iset pc, e = .levelChange el iset pc) (h : applyRest s e = .next s') :
    s'.cfg = s.cfg ∧ s'.hfgrtr = s.hfgrtr ∧ s'.pending = none := by
  obtain ⟨cfg, -, -, -, reg, -⟩ := applyRest_next h
  have kept : s'.hfgrtr = s.hfgrtr := by
    obtain same | ⟨d, rfl, -⟩ := reg
    · exact same
    · simp at he
  refine ⟨cfg, kept, ?_⟩
  obtain rfl | ⟨el, m, pc, rfl⟩ := he
  · cases hret : exceptionReturn s with
    | none => rw [applyRest_exceptionReturn_of_none hret] at h; cases h
    | some r =>
      simp only [applyRest, hret] at h
      cases h
      exact exceptionReturn_pending hret
  · exact levelChange_pending h

/-! ### `NOTRAP` in the register -/

/-- With `NOTRAP` in the register, as the mask leaves it, an implemented field of a machine with EL2 is not at its
trapping value (R19, R20, R189). -/
theorem fieldTraps_of_maskRES0_NOTRAP {s : State} {f : Field} (hpos : s.cfg.bitpos = defaultBitpos)
    (hbits : s.cfg.BitposWf) (h2 : s.cfg.haveEL2 = true) (feat : s.cfg.featOf f = true) (hp : s.pending = none)
    (hreg : s.hfgrtr = s.cfg.maskRES0 NOTRAP) : fieldTraps s f = false := by
  have bit : s.hfgrtr.getLsbD (defaultBitpos.getD f.idx 0) = !f.trapVal := by
    have place : s.cfg.bitOf f = defaultBitpos.getD f.idx 0 := by rw [Config.bitOf, hpos]
    rw [hreg, ← place, maskRES0_getLsbD_bitOf _ hbits h2 feat, place, NOTRAP_getLsbD]
  rw [fieldTraps_of_defaultBitpos hpos hp, bit]
  exact Bool.not_beq_self f.trapVal

/-- With `NOTRAP` in the register, as the mask leaves it, no read is trapped: a field the mask clears is absent, or EL2
is, and neither traps (R15, R21, R189). -/
theorem trapped_eq_false_of_maskRES0_NOTRAP {s : State} (r : Read) (hpos : s.cfg.bitpos = defaultBitpos)
    (hbits : s.cfg.BitposWf) (hp : s.pending = none) (hreg : s.hfgrtr = s.cfg.maskRES0 NOTRAP) :
    trapped s r = false := by
  rw [Bool.eq_false_iff, Ne, trapped_iff_exists]
  rintro ⟨f, hf⟩
  obtain ⟨-, feat, -, common, -, -, traps⟩ := (fgrtTraps_iff s r f).1 hf
  obtain ⟨⟨h2, -⟩, -⟩ := (fgrtCommon_iff s).1 common
  exact Bool.false_ne_true ((fieldTraps_of_maskRES0_NOTRAP hpos hbits h2 feat hp hreg).symm.trans traps)

/-- Settles O38: the `MSR` leaves `NOTRAP` in the register, masked, and leaving the level makes it the value that
governs. -/
theorem notrapWriteThenLevelChangeTrapsNothing : Obligations.NotrapWriteThenLevelChangeTrapsNothing := by
  intro s s1 s2 t e r hpos hf hr hv hwrite he hleave
  obtain ⟨⟨hbits, -⟩, -⟩ := exec_wf hwrite
  obtain rfl := msr_next_of_reachesRegister hwrite hf hr
  obtain ⟨cfg, reg, notPending⟩ := applyRest_next_of_return_or_levelChange he hleave
  rw [advance_cfg, writeHfgrtr_cfg] at cfg
  rw [advance_hfgrtr, writeHfgrtr_hfgrtr, hv, ← cfg] at reg
  exact trapped_eq_false_of_maskRES0_NOTRAP r (by rw [cfg, hpos]) (by rwa [cfg]) notPending reg

end Sys2Proof.Machine
end

section
/-! SUPPORT. The machine right after reset: what its registers read, and the empty program it meets. -/

namespace Sys2Proof.Machine

/-- The value 0 sets no RES0 bit (R20). -/
theorem maskRES0_zero (c : Config) : c.maskRES0 0#64 = 0#64 := maskRES0_eq_self fun _ => BitVec.zero_and

/-- After reset every general register reads 0, XZR among them (R27; log 14). -/
theorem readX_resetWith (c : Config) (draw : Word) (n : BitVec 5) : readX (State.resetWith c draw) n = 0#64 := by
  unfold readX
  split
  · exact Vector.getElem_replicate _
  · rfl

/-- A state with no program text has no bytes at its pc (R55, R199). -/
theorem fetchBytes_of_text_nil {s : State} (h : s.text = []) : fetchBytes s = none := by
  rw [fetchBytes, h]
  rfl

/-- An aligned pc past the end of the program text is where a run stops (R199). -/
theorem nextInstr_of_fetchBytes_none {s : State} (ha : pcAligned s = true) (hb : fetchBytes s = none) :
    nextInstr s = .error .endOfText := by
  simp [nextInstr, ha, hb]

/-- The default configuration places the 63 fields on different bits and no register in two sets (R77; log 7). -/
theorem defaultConfig_wf : defaultConfig.Wf := by decide

/-- Settles O53: with no turn listed and no program text, the first step is that of an instruction at an aligned pc with
no bytes. -/
theorem resetLeaves : Obligations.ResetLeaves := by
  have aligned : nvAligned State.reset = true := (nvAligned_iff _).2 rfl
  have atEnd : nextInstr State.reset = .error .endOfText :=
    nextInstr_of_fetchBytes_none rfl (fetchBytes_of_text_nil rfl)
  exact ⟨⟨defaultConfig_wf, aligned⟩, rfl, rfl, rfl, rfl, rfl, readX_resetWith defaultConfig 0#64,
    maskRES0_zero defaultConfig, step_of_nextInstr_error rfl atEnd⟩

end Sys2Proof.Machine
end
